-- ==== Sys2Proof/Word.lean ====
section
/-! DEFINITION. The values of the block that are not state by themselves: bytes, line levels, pin modes, error kinds,
the five-byte frame and the four-byte reading (spec 00_scope.md R9; 10_state.md R24, R25, R28, R29, R33). -/

namespace Sys2Proof

/-- `u8`: an unsigned integer from 0 to 255 (R9). -/
abbrev U8 := BitVec 8

/-- The two logic levels of the line (R9, R72). -/
inductive Level where
  | low
  | high
deriving DecidableEq, Repr, Inhabited

/-- `PinMode` (R28): `output` when the block drives the line, `input` when it only samples it. -/
inductive PinMode where
  | input
  | output
deriving DecidableEq, Repr, Inhabited

/-- The contents of `err` (R33, R170). `noResponse` is the reserved third kind of `ProtocolError`, never produced (R174). -/
inductive ErrCode where
  | none
  | timeout
  | checksumMismatch
  | noResponse
deriving DecidableEq, Repr, Inhabited

/-- `RawFrame`, the five bytes `frame[0]` to `frame[4]` in order of arrival (R24, R55). -/
structure Frame where
  b0 : U8
  b1 : U8
  b2 : U8
  b3 : U8
  b4 : U8
deriving DecidableEq, Repr, Inhabited

/-- `SensorReading`, the four bytes `reading[0]` to `reading[3]` (R25, R150). -/
structure Reading where
  humidityIntegral : U8
  humidityDecimal : U8
  temperatureIntegral : U8
  temperatureDecimal : U8
deriving DecidableEq, Repr, Inhabited

end Sys2Proof
end

