-- ==== Sys2Proof/Config.lean ====
section
/-! DEFINITION. The parameters of the block (00_scope.md R6, R7), its fixed constants, and the free values the spec
leaves to the environment (the ports of ticks nobody has fixed, the slack of a delay). -/

namespace Sys2Proof

/-- The parameter record of 00_scope.md R6, in the ranges of R7 (a): delays 0 to 32767, retry limits 0 to 255. The
types exclude every value outside its range (70_reset_and_hazards.md R195). -/
structure Params where
  reqLowUs : BitVec 15
  relHighUs : BitVec 15
  ackLowRetries : BitVec 8
  ackHighRetries : BitVec 8
  bitLowRetries : BitVec 8
  bitHighRetries : BitVec 8
  endLowRetries : BitVec 8
  sampleDelayUs : BitVec 15
  /-- `FRAME_END_STRICT`: `true` is 1 (this hardware), `false` is 0 (R139). -/
  frameEndStrict : Bool
  /-- `DELAY_SLACK_MAX`: 0 on this hardware (R91). -/
  delaySlackMax : Nat
deriving DecidableEq, Repr

/-- The values of R6: the fixed ones, and the spec's own default for each OPEN one (92_eei_decisions.md D10, D11).
DESIGN CHOICE of the spec, log 3; unsafe: the OPEN five limits and `REL_HIGH_US` have no value in the source. -/
def Params.defaults : Params where
  reqLowUs := 20000
  relHighUs := 30
  ackLowRetries := 100
  ackHighRetries := 100
  bitLowRetries := 100
  bitHighRetries := 100
  endLowRetries := 100
  sampleDelayUs := 40
  frameEndStrict := true
  delaySlackMax := 0

/-- `FRAME_BYTES` (R6). -/
def Config.frameBytes : Nat := 5

/-- `BITS_PER_BYTE` (R6). -/
def Config.bitsPerByte : Nat := 8

/-- `MIN_INTERVAL_MS` (R6, R161). -/
def Config.minIntervalMs : Nat := 2000

/-- Host time is counted in ticks: 1 ms is 1000 ticks of `TICK_US` = 1 us (45_periodic_task.md, head; R8). -/
def Config.ticksPerMs : Nat := 1000

/-- FREE VALUE. `sensor(t)`, the oracle of R2 and R52, at a tick whose level nobody has queued (93 U14; log 2). -/
opaque Config.sensor : Nat → Level

/-- FREE VALUE. `start(t)` of an arbitrary host (R165) at a tick for which nobody has queued it (log 2). -/
opaque Config.start : Nat → Bool

/-- FREE VALUE. `rst` (R190) at a tick for which nobody has queued it (log 2). -/
opaque Config.rst : Nat → Bool

/-- FREE VALUE. The `k`-th slack draw of R91, before it is brought under `DELAY_SLACK_MAX` (93 U10; log 10). -/
opaque Config.delaySlack : Nat → Nat

end Sys2Proof
end

