-- ==== Sys2Proof/Syntax.lean ====
section
/-! DEFINITION. The instructions: one constructor for each of the 27 rows of spec/opcode_table.json, with the operands
of 30_encoding.md R83, and for the host's row an interval (log 28). -/

namespace Sys2Proof

/-- The operations of the block and of its host (00_scope.md R3, 30_encoding.md R83, R86). -/
inductive Instr where
  -- the phases (R76)
  | idle
  | reqLow
  | relHigh
  | ackWaitLow
  | ackWaitHigh
  | bitWaitLow
  | bitWaitHigh
  | bitDelay
  | endWaitLow
  | validate
  | restore
  /-- Reserved phase code 1011. -/
  | reserved1011
  /-- Reserved phase codes 11xx; `low` is `xx`. -/
  | reserved11xx (low : BitVec 2)
  /-- The host command on port `start` (R79). -/
  | start
  -- the primitives (R90 to R95)
  | delayUs (n : BitVec 15)
  | configureOutput
  | configureInput
  | setLevel (v : Level)
  | readLevel
  -- the composite operations (R84) and the accessors
  | waitForLevel (target : Level) (maxRetries : BitVec 8)
  | readBit
  | readByte
  | read
  | validateFrame (f : Frame)
  | humidity (r : Reading)
  | temperature (r : Reading)
  -- the host
  /-- The host's row (R160). The spec gives it no operand but the owned pin (R83) and calls `INTERVAL_MS` a host parameter;
  that the parameter is given as this operand is the model's choice. DESIGN CHOICE, log 28. -/
  | periodicTask (intervalMs : Nat)
deriving DecidableEq, Repr

end Sys2Proof
end

