-- ==== Sys2Proof/Decode.lean ====
section
/-! DEFINITION. Encodings (30_encoding.md): the codes of the block's enumerations, the two kinds of code word, the
decoder, total and rejecting by name, the encoder, and the opcode table's reading of a numbered word. -/

namespace Sys2Proof

/-! ## The codes of the enumerations -/

/-- `Low` = 0, `High` = 1 (R72); a sampled level's code is the bit it stands for (R71). -/
def Level.code : Level → BitVec 1
  | .low => 0
  | .high => 1

/-- The level a 1-bit code stands for (R72). -/
def Level.ofCode (c : BitVec 1) : Level := if c = 1 then .high else .low

/-- `Input` = 0, `Output` = 1: the output enable (R73). -/
def PinMode.code : PinMode → BitVec 1
  | .input => 0
  | .output => 1

/-- The error codes of R77. -/
def ErrCode.code : ErrCode → BitVec 2
  | .none => 0
  | .timeout => 1
  | .checksumMismatch => 2
  | .noResponse => 3

/-! ## The phase codes (R76) -/

abbrev Phase.idle : BitVec 4 := 0#4
abbrev Phase.reqLow : BitVec 4 := 1#4
abbrev Phase.relHigh : BitVec 4 := 2#4
abbrev Phase.ackWaitLow : BitVec 4 := 3#4
abbrev Phase.ackWaitHigh : BitVec 4 := 4#4
abbrev Phase.bitWaitLow : BitVec 4 := 5#4
abbrev Phase.bitWaitHigh : BitVec 4 := 6#4
abbrev Phase.bitDelay : BitVec 4 := 7#4
abbrev Phase.endWaitLow : BitVec 4 := 8#4
abbrev Phase.validate : BitVec 4 := 9#4
abbrev Phase.restore : BitVec 4 := 10#4

/-! ## Code words, decoder, encoder -/

/-- The two places a bit pattern selects an operation (R86): the `phase` register and the port `start`. -/
inductive CodeWord where
  | phase (code : BitVec 4)
  | command (level : BitVec 1)
deriving DecidableEq, Repr

/-- Why a code word selects nothing: level 0 on `start` is "no command" (R79). -/
inductive DecodeReject where
  | noCommand
deriving DecidableEq, Repr

/-- The phase a 4-bit code selects (R76); codes 11 to 15 are reserved (R80). -/
def decodePhase (code : BitVec 4) : Instr :=
  match code.toNat with
  | 0 => .idle
  | 1 => .reqLow
  | 2 => .relHigh
  | 3 => .ackWaitLow
  | 4 => .ackWaitHigh
  | 5 => .bitWaitLow
  | 6 => .bitWaitHigh
  | 7 => .bitDelay
  | 8 => .endWaitLow
  | 9 => .validate
  | 10 => .restore
  | 11 => .reserved1011
  | _ => .reserved11xx (code.setWidth 2)

/-- The operation a code word selects (R76, R79). -/
def decode : CodeWord → Except DecodeReject Instr
  | .phase code => .ok (decodePhase code)
  | .command level => if level = 1 then .ok .start else .error .noCommand

/-- The code word of an encoded row; `none` for the rows the table marks `"encoded": false` (R86). -/
def encode : Instr → Option CodeWord
  | .idle => some (.phase 0b0000)
  | .reqLow => some (.phase 0b0001)
  | .relHigh => some (.phase 0b0010)
  | .ackWaitLow => some (.phase 0b0011)
  | .ackWaitHigh => some (.phase 0b0100)
  | .bitWaitLow => some (.phase 0b0101)
  | .bitWaitHigh => some (.phase 0b0110)
  | .bitDelay => some (.phase 0b0111)
  | .endWaitLow => some (.phase 0b1000)
  | .validate => some (.phase 0b1001)
  | .restore => some (.phase 0b1010)
  | .reserved1011 => some (.phase 0b1011)
  | .reserved11xx low => some (.phase (0b11#2 ++ low))
  | .start => some (.command 1)
  | .delayUs _ | .configureOutput | .configureInput | .setLevel _ | .readLevel | .waitForLevel _ _ | .readBit | .readByte
  | .read | .validateFrame _ | .humidity _ | .temperature _ | .periodicTask _ => none

/-- A word of `nbits` bits as the table numbers them, laid out as a code word: one bit is the port `start`, more are
the 4-bit `phase` register, whose higher bits do not exist (log 13). -/
def codeWordOfTable (nbits w : Nat) : Option CodeWord :=
  if nbits ≤ 1 then
    if w < 2 then some (.command (BitVec.ofNat 1 w)) else none
  else if w < 16 then some (.phase (BitVec.ofNat 4 w))
  else none

/-- The instruction the decoder reads from an opcode-table word; `none` where it refuses. -/
def decodeTableWord (nbits w : Nat) : Option Instr :=
  match codeWordOfTable nbits w with
  | none => none
  | some cw =>
    match decode cw with
    | .ok i => some i
    | .error _ => none

/-! ## The opcode table's patterns (R86) -/

/-- A row's `match` and `mask` over its code word: `onStart` says whether the pattern is over the port `start` or over
`phase`. -/
structure TableRow where
  onStart : Bool
  mask : Nat
  pattern : Nat
deriving DecidableEq, Repr

/-- The pattern and mask of each encoded row, from opcode_table.json. -/
def tableRow : Instr → Option TableRow
  | .idle => some ⟨false, 0xF, 0x0⟩
  | .reqLow => some ⟨false, 0xF, 0x1⟩
  | .relHigh => some ⟨false, 0xF, 0x2⟩
  | .ackWaitLow => some ⟨false, 0xF, 0x3⟩
  | .ackWaitHigh => some ⟨false, 0xF, 0x4⟩
  | .bitWaitLow => some ⟨false, 0xF, 0x5⟩
  | .bitWaitHigh => some ⟨false, 0xF, 0x6⟩
  | .bitDelay => some ⟨false, 0xF, 0x7⟩
  | .endWaitLow => some ⟨false, 0xF, 0x8⟩
  | .validate => some ⟨false, 0xF, 0x9⟩
  | .restore => some ⟨false, 0xF, 0xA⟩
  | .reserved1011 => some ⟨false, 0xF, 0xB⟩
  | .reserved11xx _ => some ⟨false, 0xC, 0xC⟩
  | .start => some ⟨true, 0x1, 0x1⟩
  | .delayUs _ | .configureOutput | .configureInput | .setLevel _ | .readLevel | .waitForLevel _ _ | .readBit | .readByte
  | .read | .validateFrame _ | .humidity _ | .temperature _ | .periodicTask _ => none

/-- Whether a code word fits a row's pattern under its mask. -/
def TableRow.fits (r : TableRow) : CodeWord → Bool
  | .phase code => !r.onStart && code.toNat &&& r.mask == r.pattern
  | .command level => r.onStart && level.toNat &&& r.mask == r.pattern

end Sys2Proof
end

