-- ==== Sys2Proof/Machine/State.lean ====
section
/-! DEFINITION. The state of the machine as plain data (10_state.md), why a step can stop, and the state after reset
(R40, R190). -/

namespace Sys2Proof.Machine

/-- The input ports of one tick (10_state.md R36): `rst`, `start`, and `line`, the level the line has at that tick with
the block not driving it (`sensor(t)`, 20_memory.md R51). -/
structure PortInputs where
  rst : Bool
  start : Bool
  line : Level
deriving DecidableEq, Repr

/-- The environment as the model holds it; none of it is a register of the block (R38).
`tick`: the number of the current tick. `inputs`: the ports of the current tick and the ones after it; past the end of
the list they are the free values of Config (log 2). `slack`, `draws`: extra ticks left of the delay in progress, and
how many have been drawn (R91, log 10); `slack` is always 0 on this hardware. -/
structure Env where
  tick : Nat
  inputs : List PortInputs
  slack : Nat
  draws : Nat
deriving DecidableEq, Repr

/-- Where the Periodic Sensor Task is in its loop (45_periodic_task.md R160): `calling` raises `start` as soon as the
block is idle, `waiting` waits for `done`, `suspended wake` yields until tick `wake`. -/
inductive TaskMode where
  | notSpawned
  | calling
  | waiting
  | suspended (wake : Nat)
deriving DecidableEq, Repr

/-- One line of the host's log (R164): the physical values in tenths (R157), or the error kind. -/
inductive LogEntry where
  | info (humidityTenths temperatureTenths : Nat)
  | warning (e : ErrCode)
deriving DecidableEq, Repr

/-- The host agent: its place in the loop, its interval in milliseconds (`INTERVAL_MS` of R160, as given at its spawning; log
28), its log, oldest entry first. -/
structure SensorTask where
  mode : TaskMode
  intervalMs : Nat
  log : List LogEntry
deriving DecidableEq, Repr

/-- What the last operation executed on its own returned (30_encoding.md R83, column "result"); the model's own field
(log 12). A physical value is the exact number of tenths (R157). -/
inductive OpResult where
  | nothing
  | ok
  | level (l : Level)
  | bit (b : BitVec 1)
  | byte (b : U8)
  | reading (r : Reading)
  | tenths (n : Nat)
  | error (e : ErrCode)
deriving DecidableEq, Repr

/-- The machine. The fields from `phase` to `err` are the block's 119 bits (10_state.md R20 to R33); the rest are the
parameter inputs (R35), the environment, the host and the model's result field. -/
structure State where
  /-- `phase`, 4 bits, raw (R20, R80). -/
  phase : BitVec 4
  /-- `byte_idx`, values 0 to 4 (R21; log 5). -/
  byteIdx : Fin 5
  /-- `bit_idx` (R22). -/
  bitIdx : BitVec 3
  /-- `acc` (R23). -/
  acc : U8
  /-- `frame[0..4]` (R24). -/
  frame : Frame
  /-- `reading[0..3]` (R25). -/
  reading : Reading
  /-- `timer` (R26). -/
  timer : BitVec 15
  /-- `retry` (R27). -/
  retry : BitVec 8
  /-- `pin_mode` (R28). -/
  pinMode : PinMode
  /-- `pin_level` (R29). -/
  pinLevel : Level
  /-- `busy` (R30). -/
  busy : Bool
  /-- `done` (R31). -/
  done : Bool
  /-- `err` (R33). -/
  err : ErrCode
  /-- The parameters (R6, R35): read, never written. -/
  params : Params
  /-- The environment (log 2). -/
  env : Env
  /-- The host (R160). -/
  task : SensorTask
  /-- The result of the last operation executed on its own (log 12). -/
  ret : OpResult
deriving DecidableEq, Repr

/-- Why the machine stops with a fault. -/
inductive Fault where
  /-- Raised by the phases RESERVED_1011 and RESERVED_11xx: the spec defines no behaviour there and asks for a fault
  (R80, R143, 93 U6). Safe. -/
  | reservedPhase (code : BitVec 4)
  /-- Raised by the zero-time loop of one tick if it had not ended after six actions. R144 proves it always has; no
  step raises this (log 23). Safe. -/
  | actionBoundExceeded
deriving DecidableEq, Repr

/-- Why an operation is refused. -/
inductive Refusal where
  /-- No meaning yet; raised by `exec`'s arms only, and by none of them now. Safe. -/
  | notModelled (mnemonic : String)
  /-- Raised by SET_LEVEL, and by the phase actions that perform it, while `pin_mode` = `Input` (R94, 93 U1; log 8).
  Safe. -/
  | setLevelInInputMode
  /-- Raised by READ_LEVEL, and by the big-step operations built on it, while `pin_mode` = `Output` (R95, 93 U2; log 9).
  Safe. -/
  | readLevelInOutputMode
  /-- Raised by PERIODIC_TASK when its interval is below `MIN_INTERVAL_MS` (R160, R161; log 19). Safe. -/
  | intervalTooShort
  /-- Raised by PERIODIC_TASK when a task already owns the block: a second host is outside the spec (R163, 93 U13; log
  19). Safe. -/
  | secondOwner
  /-- Raised by a step whose fetched code word selects nothing; the fetch never offers such a word. Safe. -/
  | undecodable (r : DecodeReject)
deriving DecidableEq, Repr

/-- What an operation answers. -/
abbrev Result := Host.Outcome State Fault Refusal

/-- The state after reset: the table of 10_state.md R40 for the block's registers, the defaults of R6 for the parameter
inputs (log 3), and an environment and a host that have done nothing (logs 2, 10, 12, 17). -/
def State.reset : State where
  phase := Phase.idle
  byteIdx := 0
  bitIdx := 0
  acc := 0
  frame := ⟨0, 0, 0, 0, 0⟩
  reading := ⟨0, 0, 0, 0⟩
  timer := 0
  retry := 0
  pinMode := .output
  pinLevel := .high
  busy := false
  done := false
  err := .none
  params := Params.defaults
  env := ⟨0, [], 0, 0⟩
  task := ⟨.notSpawned, 0, []⟩
  ret := .nothing

end Sys2Proof.Machine
end

