-- ==== Sys2Proof/Machine/Flags.lean ====
section
/-! DEFINITION. What is computed from registers without being state: the checksum and the validator's verdict
(44_checksum_and_reading.md), the output ports (10_state.md R34, R36), the classification of the result (R32), and the
bit and byte assembly (42_bit_byte_decoder.md R113, 10_state.md R24). -/

namespace Sys2Proof.Machine

/-! ## Checksum -/

/-- The 8-bit wrapping sum of bytes 0 to 3 (R151, R152). -/
def checksum (f : Frame) : U8 := f.b0 + f.b1 + f.b2 + f.b3

/-- Whether the fifth byte is the wrapping sum of the first four (R151). -/
def frameValid (f : Frame) : Bool := checksum f == f.b4

/-- Bytes 0 to 3 as a reading, unchanged (R75 step 4, R151). -/
def framePayload (f : Frame) : Reading := ⟨f.b0, f.b1, f.b2, f.b3⟩

/-- VALIDATE_FRAME as the pure function of R151: a reading, or `ChecksumMismatch`. -/
def validateFrame (f : Frame) : Except ErrCode Reading :=
  if frameValid f then .ok (framePayload f) else .error .checksumMismatch

/-! ## The reading's derived values -/

/-- `humidity_tenths`, 12 bits (R34 (b), R157). -/
def humidityTenths (r : Reading) : BitVec 12 := 10 * r.humidityIntegral.setWidth 12 + r.humidityDecimal.setWidth 12

/-- `temperature_tenths`, 12 bits (R34 (b), R157). -/
def temperatureTenths (r : Reading) : BitVec 12 :=
  10 * r.temperatureIntegral.setWidth 12 + r.temperatureDecimal.setWidth 12

/-- `Humidity(r)` as the exact rational of R153. -/
def humidityValue (r : Reading) : Rat := (r.humidityIntegral.toNat : Rat) + (r.humidityDecimal.toNat : Rat) / 10

/-- `Temperature(r)` as the exact rational of R154. -/
def temperatureValue (r : Reading) : Rat :=
  (r.temperatureIntegral.toNat : Rat) + (r.temperatureDecimal.toNat : Rat) / 10

/-- `reading32`, first byte highest (R34 (a), R78). -/
def reading32 (r : Reading) : BitVec 32 :=
  r.humidityIntegral ++ r.humidityDecimal ++ r.temperatureIntegral ++ r.temperatureDecimal

/-- The 40-bit number of a frame, first bit received highest (R55, R74). -/
def frame40 (f : Frame) : BitVec 40 := f.b0 ++ f.b1 ++ f.b2 ++ f.b3 ++ f.b4

/-! ## Bit and byte assembly -/

/-- The left-shift form of the assembly: `((acc << 1) | b) & 0xFF` (R113). -/
def shiftIn (acc : U8) (b : BitVec 1) : U8 := (acc <<< 1) ||| b.setWidth 8

/-- The source's positional form: `acc | (b << (7 - i))` (R112, R113). -/
def placeBit (acc : U8) (i : Nat) (b : BitVec 1) : U8 := acc ||| (b.setWidth 8 <<< (7 - i))

/-- `frame[j]` (R24). -/
def frameGet (f : Frame) (j : Fin 5) : U8 :=
  match j with
  | 0 => f.b0
  | 1 => f.b1
  | 2 => f.b2
  | 3 => f.b3
  | 4 => f.b4

/-- `frame[j] <- v` (R24, R138). -/
def frameSet (f : Frame) (j : Fin 5) (v : U8) : Frame :=
  match j with
  | 0 => { f with b0 := v }
  | 1 => { f with b1 := v }
  | 2 => { f with b2 := v }
  | 3 => { f with b3 := v }
  | 4 => { f with b4 := v }

/-- The next `byte_idx`: one more, and 4 stays 4 (R138). -/
def nextByteIdx (j : Fin 5) : Fin 5 :=
  match j with
  | 0 => 1
  | 1 => 2
  | 2 => 3
  | 3 => 4
  | 4 => 4

/-- `timer <- timer - 1`, never below 0: the counter stops at 0 (R183 (a), R152; log 6). -/
def timerDown (t : BitVec 15) : BitVec 15 := if t = 0 then 0 else t - 1

/-! ## The output ports (R36): functions of the state alone -/

/-- Port `line_oe`. -/
def State.lineOe (s : State) : BitVec 1 := s.pinMode.code

/-- Port `line_out`. -/
def State.lineOut (s : State) : BitVec 1 := s.pinLevel.code

/-- The pad control word `{line_oe, line_out}` of R86 (c). -/
def State.padWord (s : State) : BitVec 2 := s.lineOe ++ s.lineOut

/-- Port `err`. -/
def State.errPort (s : State) : BitVec 2 := s.err.code

/-- Port `busy`. -/
def State.busyPort (s : State) : BitVec 1 := BitVec.ofBool s.busy

/-- Port `done`. -/
def State.donePort (s : State) : BitVec 1 := BitVec.ofBool s.done

/-- Port `hum_int`. -/
def State.humInt (s : State) : U8 := s.reading.humidityIntegral

/-- Port `hum_dec`. -/
def State.humDec (s : State) : U8 := s.reading.humidityDecimal

/-- Port `tmp_int`. -/
def State.tmpInt (s : State) : U8 := s.reading.temperatureIntegral

/-- Port `tmp_dec`. -/
def State.tmpDec (s : State) : U8 := s.reading.temperatureDecimal

/-- Port `reading32`. -/
def State.reading32Port (s : State) : BitVec 32 := reading32 s.reading

/-- Port `humidity_tenths`. -/
def State.humidityTenthsPort (s : State) : BitVec 12 := humidityTenths s.reading

/-- Port `temperature_tenths`. -/
def State.temperatureTenthsPort (s : State) : BitVec 12 := temperatureTenths s.reading

/-- The result of the last transaction as `(done, err)` classify it (R11, R32): no result, a reading, or an error kind.
The combination `done` = 0 with an error never occurs (R32). -/
def State.result (s : State) : Option (Except ErrCode Reading) :=
  if s.done then
    if s.err = .none then some (.ok s.reading) else some (.error s.err)
  else none

end Sys2Proof.Machine
end

