-- ==== Sys2Proof/Machine/Operands.lean ====
section
/-! DEFINITION. Where the operands of an operation come from: the input ports of a tick, the line (20_memory.md R52),
the `start` signal, the slack of a delay (R91), and the operands of the delay and wait phases (R26, R103). -/

namespace Sys2Proof.Machine

/-- The input ports of the current tick: the head of the queue, or the free values (log 2). -/
def State.inputsNow (s : State) : PortInputs :=
  match s.env.inputs with
  | i :: _ => i
  | [] => ⟨Config.rst s.env.tick, Config.start s.env.tick, Config.sensor s.env.tick⟩

/-- Let `n` ticks pass: the tick number grows and the ports of those ticks are gone. -/
def State.elapse (s : State) (n : Nat) : State :=
  { s with env := { s.env with tick := s.env.tick + n, inputs := s.env.inputs.drop n } }

/-- `sensor(t + k)`, with `t` the current tick. -/
def State.sensorAt (s : State) (k : Nat) : Level := (s.elapse k).inputsNow.line

/-- `rst` at tick `t + k`. -/
def State.rstAt (s : State) (k : Nat) : Bool := (s.elapse k).inputsNow.rst

/-- `Line(t)` at the current tick (R52): the sensor's level in Input mode, the block's own in Output mode. -/
def State.line (s : State) : Level :=
  match s.pinMode with
  | .input => s.inputsNow.line
  | .output => s.pinLevel

/-- Whether the Periodic Sensor Task raises `start` in this tick: it is calling, or its suspension is over, and the
block is idle (R160, R165). -/
def State.taskRaises (s : State) : Bool :=
  match s.task.mode with
  | .calling => s.phase = Phase.idle && !s.busy
  | .suspended wake => decide (wake ≤ s.env.tick) && (s.phase = Phase.idle && !s.busy)
  | .notSpawned | .waiting => false

/-- `start(t)` as the block sees it: the task's when a task owns the block, else the port's (R163). -/
def State.startNow (s : State) : Bool :=
  match s.task.mode with
  | .notSpawned => s.inputsNow.start
  | .calling | .waiting | .suspended _ => s.taskRaises

/-- The next slack: 0 when `DELAY_SLACK_MAX` is 0, else a free value from 0 to `DELAY_SLACK_MAX` (R91; log 10). -/
def State.slackDrawn (s : State) : Nat :=
  if s.params.delaySlackMax = 0 then 0 else Config.delaySlack s.env.draws % (s.params.delaySlackMax + 1)

/-- How many slacks have been drawn once the next delay has drawn its own. -/
def State.drawsAfter (s : State) : Nat := if s.params.delaySlackMax = 0 then s.env.draws else s.env.draws + 1

/-- The delay phases and the length each loads into `timer` (R26, R132, R133, R137). -/
def delayOperand (p : Params) (code : BitVec 4) : Option (BitVec 15) :=
  if code = Phase.reqLow then some p.reqLowUs
  else if code = Phase.relHigh then some p.relHighUs
  else if code = Phase.bitDelay then some p.sampleDelayUs
  else none

/-- The wait phases with their target and limit: the table of R103. -/
def waitOperands (p : Params) (code : BitVec 4) : Option (Level × BitVec 8) :=
  if code = Phase.ackWaitLow then some (.low, p.ackLowRetries)
  else if code = Phase.ackWaitHigh then some (.high, p.ackHighRetries)
  else if code = Phase.bitWaitLow then some (.low, p.bitLowRetries)
  else if code = Phase.bitWaitHigh then some (.high, p.bitHighRetries)
  else if code = Phase.endWaitLow then some (.low, p.endLowRetries)
  else none

end Sys2Proof.Machine
end

