-- ==== Sys2Proof/Machine/Ops.lean ====
section
/-! DEFINITION. The shared operations: sequencing, time, the pin controller (40_pin_and_delay.md), entering a phase,
raising an error and returning from it (60_exceptions.md R173, R179, R180), the two shapes of a timed phase action
(R101, R132), and the big-step wait (R100). -/

namespace Sys2Proof.Machine

/-! ## Sequencing -/

/-- Go on with `f` from a next state; a fault or a refusal stops. -/
def andThen (r : Result) (f : State → Result) : Result :=
  match r with
  | .next s => f s
  | .fault e => .fault e
  | .refused e => .refused e

/-- How a big-step operation ends (00_scope.md R10): `Ok` with a value, `Err` with an error kind, each with the state
at the tick it ended; or it was refused. -/
inductive OpEnd (α : Type) where
  | ok (a : α) (s : State)
  | err (e : ErrCode) (s : State)
  | refused (r : Refusal)
deriving DecidableEq, Repr

/-- Go on after `Ok`; `Err` ends the caller too (R10, R114). -/
def thenOp {α β : Type} (r : OpEnd α) (f : α → State → OpEnd β) : OpEnd β :=
  match r with
  | .ok a s => f a s
  | .err e s => .err e s
  | .refused e => .refused e

/-- A big-step operation executed on its own: its value or its error goes to `ret`; an error is also written to `err`
(R100 "on failure `err`"; log 12). -/
def finishOp {α : Type} (r : OpEnd α) (value : α → OpResult) : Result :=
  match r with
  | .ok a s => .next { s with ret := value a }
  | .err e s => .next { s with err := e, ret := .error e }
  | .refused e => .refused e

/-! ## Time -/

/-- Draw the slack of a delay that begins now (R91). -/
def State.drawSlack (s : State) : State :=
  { s with env := { s.env with slack := s.slackDrawn, draws := s.drawsAfter } }

/-- A whole delay of `n` ticks and its slack, seen from outside: the ticks pass (R90, R91). -/
def State.passTicks (s : State) (n : Nat) : State :=
  { s with env := { tick := s.env.tick + (n + s.slackDrawn), inputs := s.env.inputs.drop (n + s.slackDrawn),
                    slack := 0, draws := s.drawsAfter } }

/-- `DelayUs(n)` big-step: `timer` has counted down to 0 (R90: "State written: `timer` only"). -/
def State.delayUs (s : State) (n : BitVec 15) : State := { s.passTicks n.toNat with timer := 0 }

/-- The end of the step of one tick. -/
def State.endTick (s : State) : State := s.elapse 1

/-! ## The pin controller -/

/-- `ConfigureOutput()` (R92). -/
def State.configureOutput (s : State) : State := { s with pinMode := .output }

/-- `ConfigureInput()` (R93). -/
def State.configureInput (s : State) : State := { s with pinMode := .input }

/-- `SetLevel(v)`: only in Output mode; in Input mode it has no meaning and is refused (R94, 93 U1; log 8). -/
def setLevel (v : Level) (s : State) : Result :=
  match s.pinMode with
  | .output => .next { s with pinLevel := v }
  | .input => .refused .setLevelInInputMode

/-- `ReadLevel()` as an operation: only in Input mode (R95, 93 U2; log 9). -/
def readLevel (s : State) : OpEnd Level :=
  match s.pinMode with
  | .input => .ok s.inputsNow.line s
  | .output => .refused .readLevelInOutputMode

/-! ## Entering a phase -/

/-- A wait phase is entered with `retry <- 0` (R101). -/
def State.enterWait (s : State) (code : BitVec 4) : State := { s with phase := code, retry := 0 }

/-- A delay phase is entered with `timer` loaded (R90, R26). -/
def State.enterDelay (s : State) (code : BitVec 4) (n : BitVec 15) : State :=
  { s with phase := code, timer := n, env := { s.env with slack := s.slackDrawn, draws := s.drawsAfter } }

/-- A phase with no entry action (R139). -/
def State.enterPhase (s : State) (code : BitVec 4) : State := { s with phase := code }

/-! ## Errors: entry and return -/

/-- Raising an error, small-step: `err <- e; phase <- RESTORE` (R173, R179). Nothing is saved (R175, R179). -/
def State.raise (s : State) (e : ErrCode) : State := { s with err := e, phase := Phase.restore }

/-- RESTORE: the line back to driven high, the result published, the block idle (R141, R179 (3)). -/
def State.restoreLine (s : State) : State :=
  { s with pinMode := .output, pinLevel := .high, busy := false, done := true, phase := Phase.idle }

/-- The registers Begin clears (R131, R180). `retry` is not written. -/
def State.clearForTransaction (s : State) : State :=
  { s with busy := true, done := false, err := .none, reading := ⟨0, 0, 0, 0⟩, frame := ⟨0, 0, 0, 0, 0⟩, acc := 0,
           bitIdx := 0, byteIdx := 0 }

/-- Begin: the return from the last transaction's end and the start of a new one (R131, R180). -/
def beginTransaction (s : State) : Result :=
  andThen (setLevel .low s.clearForTransaction) fun s1 => .next (s1.enterDelay Phase.reqLow s1.params.reqLowUs)

/-- The effect of VALIDATE on the registers (R140): the reading on success, `ChecksumMismatch` on failure. -/
def State.validateRegs (s : State) : State :=
  match validateFrame s.frame with
  | .ok r => { s with reading := r }
  | .error e => { s with err := e }

/-! ## Assembly -/

/-- A sampled bit that is not the last of its byte (R138). -/
def State.keepBit (s : State) (b : BitVec 1) : State := { s with acc := shiftIn s.acc b, bitIdx := s.bitIdx + 1 }

/-- The completed byte `v` goes to `frame[byte_idx]`; `acc` and `bit_idx` are cleared (R138). -/
def State.storeByte (s : State) (v : U8) : State :=
  { s with frame := frameSet s.frame s.byteIdx v, acc := 0, bitIdx := 0 }

/-- `byte_idx` moves to the next byte and stays at 4 (R138). -/
def State.nextByte (s : State) : State := { s with byteIdx := nextByteIdx s.byteIdx }

/-! ## The two shapes of a timed phase action -/

/-- A delay phase's action (R132, R133, R138): blocked while `timer` is not 0, then while slack is left (R91), then
`onEnd`. -/
def delayAction (onEnd : State → Result) (s : State) : Result :=
  if s.timer ≠ 0 then .next s
  else if s.env.slack ≠ 0 then .next { s with env := { s.env with slack := s.env.slack - 1 } }
  else onEnd s

/-- A wait phase's action (R101): the limit is checked before the poll (R177); a mismatching poll starts the 1-tick
delay and blocks; a match goes on. The slack of that delay, if any, is spent first (R91). -/
def waitAction (target : Level) (limit : BitVec 8) (onMatch onTimeout : State → State) (s : State) : Result :=
  if s.env.slack ≠ 0 then .next { s with env := { s.env with slack := s.env.slack - 1 } }
  else if s.retry = limit then .next (onTimeout s)
  else if s.line = target then .next (onMatch { s with retry := s.retry + 1 })
  else .next ({ s with retry := s.retry + 1 } : State).drawSlack

/-! ## The big-step wait -/

/-- `m` polls are left: poll, and on a mismatch let the 1-tick delay pass and retry (R100). The delay does not touch
`timer` (R100: "State written: `retry` ... Nothing else"). -/
def waitLoop (target : Level) : Nat → State → OpEnd Unit
  | 0, s => .err .timeout s
  | m + 1, s =>
    thenOp (readLevel s) fun l s =>
      let s1 : State := { s with retry := s.retry + 1 }
      if l = target then .ok () s1 else waitLoop target m (s1.passTicks 1)

/-- `WaitForLevel(line, t, target, M)` (R100). -/
def waitFor (target : Level) (maxRetries : BitVec 8) (s : State) : OpEnd Unit :=
  waitLoop target maxRetries.toNat { s with retry := 0 }

end Sys2Proof.Machine
end

