-- ==== Sys2Proof/Machine/Checksum.lean ====
section
/-! DEFINITION. The pure operations on a frame or a reading as operations of their own: VALIDATE_FRAME, HUMIDITY,
TEMPERATURE (44_checksum_and_reading.md R151, R153, R154). They write nothing but the model's result field (log 11). -/

namespace Sys2Proof.Machine

/-- VALIDATE_FRAME f (R151): a reading, or `ChecksumMismatch`. -/
def execValidateFrame (f : Frame) (s : State) : Result :=
  match validateFrame f with
  | .ok r => .next { s with ret := .reading r }
  | .error e => .next { s with ret := .error e }

/-- HUMIDITY r (R153), as exact tenths (R157; log 20). -/
def execHumidity (r : Reading) (s : State) : Result := .next { s with ret := .tenths (humidityTenths r).toNat }

/-- TEMPERATURE r (R154), as exact tenths (R157; log 20). -/
def execTemperature (r : Reading) (s : State) : Result := .next { s with ret := .tenths (temperatureTenths r).toNat }

end Sys2Proof.Machine
end

