-- ==== Sys2Proof/Machine/HostTask.lean ====
section
/-! DEFINITION. The host: PERIODIC_TASK, which spawns the Periodic Sensor Task (45_periodic_task.md R160), and the task's
own part of a tick: raising `start`, reading `done`, logging, suspending (R160, R161, R164, R165). -/

namespace Sys2Proof.Machine

/-- The log line for the result the block shows (R160, R164). -/
def State.logEntry (s : State) : LogEntry :=
  if s.err = .none then .info (humidityTenths s.reading).toNat (temperatureTenths s.reading).toNat else .warning s.err

/-- The tick until which the task suspends from now: `Suspend(INTERVAL_MS)` (R160, R161). -/
def State.wakeTick (s : State) : Nat := s.env.tick + s.task.intervalMs * Config.ticksPerMs

/-- The task's place in its loop once it has raised `start` in this tick, if it did. -/
def State.taskModeAfterStart (s : State) (raised : Bool) : TaskMode := if raised then .waiting else s.task.mode

/-- The task after the block's step of this tick; `raised` says that it raised `start` in this tick. If it waits and
`done` is 1 it logs the result and suspends, in both cases for the same interval (R160, R161, R162). -/
def State.taskAfter (s : State) (raised : Bool) : SensorTask :=
  if s.taskModeAfterStart raised = .waiting ∧ s.done = true then
    { mode := .suspended s.wakeTick, intervalMs := s.task.intervalMs, log := s.task.log ++ [s.logEntry] }
  else { mode := s.taskModeAfterStart raised, intervalMs := s.task.intervalMs, log := s.task.log }

/-- The task's part of the tick after the block's step. -/
def State.taskAct (s : State) (raised : Bool) : State := { s with task := s.taskAfter raised }

/-- What a reset of the block means to the task: it counts as the end of a transaction, so the task suspends for a whole
interval (R191, R194; log 18). -/
def State.taskOnReset (s : State) : SensorTask :=
  match s.task.mode with
  | .notSpawned => s.task
  | .calling | .waiting | .suspended _ => { s.task with mode := .suspended s.wakeTick }

/-- PERIODIC_TASK (R160): the task is spawned and begins its loop with a call of `read()`. Refused for an interval below
2000 ms, and when a task already owns the block (log 19). `INTERVAL_MS` is a host parameter in the spec; that it is this
operand, fixed when the task is spawned, is the model's choice (DESIGN CHOICE, log 28). -/
def execPeriodicTask (intervalMs : Nat) (s : State) : Result :=
  if intervalMs < Config.minIntervalMs then .refused .intervalTooShort
  else if s.task.mode ≠ .notSpawned then .refused .secondOwner
  else .next { s with task := { mode := .calling, intervalMs := intervalMs, log := s.task.log } }

end Sys2Proof.Machine
end

