-- ==== Sys2Proof/Machine/Phases.lean ====
section
/-! DEFINITION. The phases that are not waits: rest, the three delays, validation, restoration, and the reserved codes
(43_transaction_fsm.md R131 to R133, R138, R140, R141, R143). Each is one zero-time action of the current tick: a
blocked action leaves `phase` as it is, one that goes on changes it (R130). -/

namespace Sys2Proof.Machine

/-- IDLE (R131): Begin when `start` is 1 in this tick, else nothing. -/
def execIdle (s : State) : Result := if s.startNow then beginTransaction s else .next s

/-- REQ_LOW (R132): at the end of the delay drive high and go to REL_HIGH. -/
def execReqLow (s : State) : Result :=
  delayAction (fun u => andThen (setLevel .high u) fun v => .next (v.enterDelay Phase.relHigh v.params.relHighUs)) s

/-- REL_HIGH (R133): at the end of the delay release the line and go to ACK_WAIT_LOW. -/
def execRelHigh (s : State) : Result := delayAction (fun u => .next (u.configureInput.enterWait Phase.ackWaitLow)) s

/-- The end of BIT_DELAY (R138): sample, assemble, advance. -/
def State.sampleBit (s : State) : State :=
  if s.bitIdx ≠ 7 then (s.keepBit s.line.code).enterWait Phase.bitWaitLow
  else
    let u := s.storeByte (shiftIn s.acc s.line.code)
    if s.byteIdx ≠ 4 then u.nextByte.enterWait Phase.bitWaitLow else u.enterWait Phase.endWaitLow

/-- BIT_DELAY (R138). -/
def execBitDelay (s : State) : Result := delayAction (fun u => .next u.sampleBit) s

/-- VALIDATE (R140). -/
def execValidate (s : State) : Result := .next (s.validateRegs.enterPhase Phase.restore)

/-- RESTORE (R141). -/
def execRestore (s : State) : Result := .next s.restoreLine

/-- RESERVED_1011 (R143): a fault. -/
def execReserved1011 (_s : State) : Result := .fault (.reservedPhase 0b1011)

/-- RESERVED_11xx (R143): a fault. -/
def execReserved11xx (low : BitVec 2) (_s : State) : Result := .fault (.reservedPhase (0b11#2 ++ low))

end Sys2Proof.Machine
end

