-- ==== Sys2Proof/Machine/Primitives.lean ====
section
/-! DEFINITION. The five primitives as operations of their own (40_pin_and_delay.md R90 to R95). -/

namespace Sys2Proof.Machine

/-- DELAY_US n (R90): `n` ticks pass, and the slack if any (R91). -/
def execDelayUs (n : BitVec 15) (s : State) : Result := .next (s.delayUs n)

/-- CONFIGURE_OUTPUT (R92). -/
def execConfigureOutput (s : State) : Result := .next s.configureOutput

/-- CONFIGURE_INPUT (R93). -/
def execConfigureInput (s : State) : Result := .next s.configureInput

/-- SET_LEVEL v (R94): refused in Input mode. -/
def execSetLevel (v : Level) (s : State) : Result := setLevel v s

/-- READ_LEVEL (R95): the level goes to `ret`; refused in Output mode. -/
def execReadLevel (s : State) : Result := finishOp (readLevel s) .level

end Sys2Proof.Machine
end

