-- ==== Sys2Proof/Machine/Decoder.lean ====
section
/-! DEFINITION. The bit and byte decoder as operations of their own: READ_BIT and READ_BYTE, big-step
(42_bit_byte_decoder.md R110, R112). -/

namespace Sys2Proof.Machine

/-- `ReadBit(line, t)` (R110): wait for low, wait for high, the fixed delay, one sample. -/
def readBit (s : State) : OpEnd (BitVec 1) :=
  thenOp (waitFor .low s.params.bitLowRetries s) fun _ s1 =>
    thenOp (waitFor .high s1.params.bitHighRetries s1) fun _ s2 =>
      thenOp (readLevel (s2.delayUs s2.params.sampleDelayUs)) fun l s3 => .ok l.code s3

/-- `n` bits one after the other into `acc` (R112, in the shift form of R113). -/
def readBits : Nat → State → OpEnd Unit
  | 0, s => .ok () s
  | n + 1, s => thenOp (readBit s) fun b s1 => readBits n (s1.keepBit b)

/-- `ReadByte(line, t)` (R112): eight bits, then the byte is in `frame[byte_idx]` (log 16). -/
def readByte (s : State) : OpEnd U8 :=
  thenOp (readBits Config.bitsPerByte { s with acc := 0, bitIdx := 0 }) fun _ s1 => .ok s1.acc (s1.storeByte s1.acc)

/-- READ_BIT (R110): the bit goes to `ret`. -/
def execReadBit (s : State) : Result := finishOp (readBit s) .bit

/-- READ_BYTE (R112): the byte goes to `frame[byte_idx]` and to `ret`. -/
def execReadByte (s : State) : Result := finishOp (readByte s) .byte

end Sys2Proof.Machine
end

