-- ==== Sys2Proof/Machine/Transaction.lean ====
section
/-! DEFINITION. The command START (43_transaction_fsm.md R142) and the whole transaction as one operation, READ, big-step
(R120). -/

namespace Sys2Proof.Machine

/-- START (R142): accepted exactly in IDLE, ignored without a trace otherwise. -/
def execStart (s : State) : Result := if s.phase = Phase.idle then beginTransaction s else .next s

/-- States 2 and 3 of the source: the request pulse and the release (R120). It ends at `t_open`, in Input mode. -/
def openLine (s : State) : Result :=
  andThen (setLevel .low s.clearForTransaction) fun s1 =>
    andThen (setLevel .high (s1.delayUs s1.params.reqLowUs)) fun s2 =>
      .next (s2.delayUs s2.params.relHighUs).configureInput

/-- `n` bytes one after the other (R120, state 5). -/
def readBytes : Nat → State → OpEnd Unit
  | 0, s => .ok () s
  | n + 1, s => thenOp (readByte s) fun _ s1 => readBytes n s1.nextByte

/-- The FrameEnd wait, big-step (R120, state 6): a `Timeout` is ignored when `FRAME_END_STRICT` is 0. -/
def endWait (s : State) : OpEnd Unit :=
  match waitFor .low s.params.endLowRetries s with
  | .err e s1 => if s1.params.frameEndStrict then .err e s1 else .ok () s1
  | .ok u s1 => .ok u s1
  | .refused e => .refused e

/-- State 7 (R120): the reading is published in `reading`, or `ChecksumMismatch` ends the transaction. -/
def validateEnd (s : State) : OpEnd Unit :=
  match validateFrame s.frame with
  | .ok r => .ok () { s with reading := r }
  | .error e => .err e s

/-- States 4 to 7 of the source, from `t_open` (R120). -/
def receive (s : State) : OpEnd Unit :=
  thenOp (waitFor .low s.params.ackLowRetries s) fun _ s1 =>
    thenOp (waitFor .high s1.params.ackHighRetries s1) fun _ s2 =>
      thenOp (readBytes Config.frameBytes s2) fun _ s3 =>
        thenOp (endWait s3) fun _ s4 => validateEnd s4

/-- State 8 (R120): in every case the line is restored and the result published, at the tick the transaction ended. -/
def finishRead (r : OpEnd Unit) : Result :=
  match r with
  | .ok _ s => .next { s.restoreLine with ret := .reading s.reading }
  | .err e s => .next { s.restoreLine with err := e, ret := .error e }
  | .refused e => .refused e

/-- READ (R120): one transaction from the accepted `start` to its end. It is a call of START, so in a busy block it is
ignored (R142, R198; log 15). -/
def execRead (s : State) : Result :=
  if s.phase = Phase.idle then andThen (openLine s) fun s1 => finishRead (receive s1) else .next s

end Sys2Proof.Machine
end

