-- ==== Sys2Proof/Machine/Waits.lean ====
section
/-! DEFINITION. The bounded wait: WAIT_FOR_LEVEL (41_edge_wait.md R100) and the five wait phases, its call sites
(R101, R103; 43_transaction_fsm.md R134 to R137, R139). -/

namespace Sys2Proof.Machine

/-- WAIT_FOR_LEVEL (R100). -/
def execWaitForLevel (target : Level) (maxRetries : BitVec 8) (s : State) : Result :=
  finishOp (waitFor target maxRetries s) fun _ => .ok

/-- ACK_WAIT_LOW (R134). -/
def execAckWaitLow (s : State) : Result :=
  waitAction .low s.params.ackLowRetries (·.enterWait Phase.ackWaitHigh) (·.raise .timeout) s

/-- ACK_WAIT_HIGH (R135). -/
def execAckWaitHigh (s : State) : Result :=
  waitAction .high s.params.ackHighRetries (·.enterWait Phase.bitWaitLow) (·.raise .timeout) s

/-- BIT_WAIT_LOW (R136). -/
def execBitWaitLow (s : State) : Result :=
  waitAction .low s.params.bitLowRetries (·.enterWait Phase.bitWaitHigh) (·.raise .timeout) s

/-- BIT_WAIT_HIGH (R137): its successor is the sample delay; `retry` is left as it is. -/
def execBitWaitHigh (s : State) : Result :=
  waitAction .high s.params.bitHighRetries (fun u => u.enterDelay Phase.bitDelay u.params.sampleDelayUs) (·.raise .timeout) s

/-- A failed FrameEnd wait in the FSM: `Timeout`, or on to VALIDATE when `FRAME_END_STRICT` is 0 (R139, 90 C1). -/
def State.endWaitFailed (s : State) : State :=
  if s.params.frameEndStrict then s.raise .timeout else s.enterPhase Phase.validate

/-- END_WAIT_LOW (R139): VALIDATE has no entry action. -/
def execEndWaitLow (s : State) : Result :=
  waitAction .low s.params.endLowRetries (·.enterPhase Phase.validate) (·.endWaitFailed) s

end Sys2Proof.Machine
end

