-- ==== Sys2Proof/Machine/Dispatch.lean ====
section
/-! DEFINITION. One arm per constructor of Instr. -/

namespace Sys2Proof.Machine

/-- The meaning of an instruction in a state. -/
def exec (i : Instr) (s : State) : Host.Outcome State Fault Refusal :=
  match i with
  | .idle => Sys2Proof.Machine.execIdle s
  | .reqLow => Sys2Proof.Machine.execReqLow s
  | .relHigh => Sys2Proof.Machine.execRelHigh s
  | .ackWaitLow => Sys2Proof.Machine.execAckWaitLow s
  | .ackWaitHigh => Sys2Proof.Machine.execAckWaitHigh s
  | .bitWaitLow => Sys2Proof.Machine.execBitWaitLow s
  | .bitWaitHigh => Sys2Proof.Machine.execBitWaitHigh s
  | .bitDelay => Sys2Proof.Machine.execBitDelay s
  | .endWaitLow => Sys2Proof.Machine.execEndWaitLow s
  | .validate => Sys2Proof.Machine.execValidate s
  | .restore => Sys2Proof.Machine.execRestore s
  | .reserved1011 => Sys2Proof.Machine.execReserved1011 s
  | .reserved11xx low => Sys2Proof.Machine.execReserved11xx low s
  | .start => Sys2Proof.Machine.execStart s
  | .delayUs n => Sys2Proof.Machine.execDelayUs n s
  | .configureOutput => Sys2Proof.Machine.execConfigureOutput s
  | .configureInput => Sys2Proof.Machine.execConfigureInput s
  | .setLevel v => Sys2Proof.Machine.execSetLevel v s
  | .readLevel => Sys2Proof.Machine.execReadLevel s
  | .waitForLevel target maxRetries => Sys2Proof.Machine.execWaitForLevel target maxRetries s
  | .readBit => Sys2Proof.Machine.execReadBit s
  | .readByte => Sys2Proof.Machine.execReadByte s
  | .read => Sys2Proof.Machine.execRead s
  | .validateFrame f => Sys2Proof.Machine.execValidateFrame f s
  | .humidity r => Sys2Proof.Machine.execHumidity r s
  | .temperature r => Sys2Proof.Machine.execTemperature r s
  | .periodicTask intervalMs => Sys2Proof.Machine.execPeriodicTask intervalMs s

end Sys2Proof.Machine
end

