-- ==== Sys2Proof/Machine/Tick.lean ====
section
/-! DEFINITION. The parts of one tick (43_transaction_fsm.md R130): reset (R190, R191), the fetch of the code word, the
passing of the tick, the loop of zero-time actions, and the placing of an instruction where the next tick fetches it. -/

namespace Sys2Proof.Machine

/-- The code word that selects the operation of the moment (R76, R142): the command on `start` when the block is idle
and `start` is 1, else the code in `phase`. -/
def State.fetchWord (s : State) : CodeWord :=
  if s.phase = Phase.idle ∧ s.startNow = true then .command 1 else .phase s.phase

/-- The tick that passed since the last step: in a delay phase `timer` counts down (R130). -/
def State.beginTick (s : State) : State :=
  { s with timer := if (delayOperand s.params s.phase).isSome then timerDown s.timer else s.timer }

/-- The bound of R144 on the zero-time actions of one tick. -/
def maxActions : Nat := 6

/-- The loop of R130: fetch, decode, perform; stop when the action is blocked (it left `phase` as it was) or the block
is idle. -/
def runActions : Nat → State → Result
  | 0, _ => .fault .actionBoundExceeded
  | n + 1, s =>
    match decode s.fetchWord with
    | .error e => .refused (.undecodable e)
    | .ok i =>
      andThen (exec i s) fun s1 =>
        if s1.phase = s.phase ∨ s1.phase = Phase.idle then .next s1 else runActions n s1

/-- The block's registers back to their reset values; parameters, environment, host and the model's result stay
(R191, R196). The delay in progress is gone, and its slack with it. -/
def State.resetBlock (s : State) : State :=
  { State.reset with params := s.params, env := { s.env with slack := 0 }, task := s.taskOnReset, ret := s.ret }

/-- The step of a tick without reset: the task may raise `start`, the block performs its actions, the task looks at
`done` (R130, R160). -/
def tickBlock (s : State) : Result :=
  andThen (runActions maxActions s.beginTick) fun s1 => .next (s1.taskAct s.taskRaises)

/-- One tick (R8, R130): reset has priority over everything (R177, R191). -/
def tick (s : State) : Result :=
  if s.inputsNow.rst then .next s.resetBlock.endTick
  else andThen (tickBlock s) fun s1 => .next s1.endTick

/-- The queue with the ports of the current tick replaced; where nothing is queued the undriven line is High (R64). -/
def State.withPorts (s : State) (start : Bool) : List PortInputs :=
  match s.env.inputs with
  | i :: rest => ⟨false, start, i.line⟩ :: rest
  | [] => [⟨false, start, .high⟩]

/-- An opcode-table word placed where the next tick fetches it (log 14): a phase code in `phase`, with `start` at 0; or
the level on `start`, with the block idle and no task owning it. `rst` is 0 in that tick. -/
def State.placeWord (s : State) (nbits w : Nat) : State :=
  if nbits ≤ 1 then
    { s with phase := Phase.idle, env := { s.env with inputs := s.withPorts (w % 2 == 1) },
             task := { s.task with mode := .notSpawned } }
  else
    { s with phase := BitVec.ofNat 4 w, env := { s.env with inputs := s.withPorts false },
             task := { s.task with mode := .notSpawned } }

end Sys2Proof.Machine
end

