-- ==== Sys2Proof/Machine/Step.lean ====
section
/-! DEFINITION. The step of the machine: one tick of 1 us (00_scope.md R8, 43_transaction_fsm.md R130). -/

namespace Sys2Proof.Machine

/-- One step: the step of the current tick. -/
def step (s : State) : Host.Outcome State Fault Refusal := tick s

/-- `s` with an opcode-table word where the next step fetches its instruction (log 14). -/
def State.withFetchWord (s : State) (nbits w : Nat) : State := s.placeWord nbits w

end Sys2Proof.Machine
end

