-- ==== Sys2Proof/Machine/Stimulus.lean ====
section
/-! DEFINITION. Sensor waveforms: the run-length notation of 30_encoding.md R85, the bit symbol of R71, the frame of R74 on
the line (R70), and what it means that the sensor sends a sequence of levels. The block reads none of this; statements
about well-timed sensors use it. -/

namespace Sys2Proof.Machine

/-- A waveform as a run-length list: a level and its number of ticks (R85). -/
abbrev Waveform := List (Level × Nat)

/-- The levels of a waveform, one a tick. -/
def expand : Waveform → List Level
  | [] => []
  | (l, n) :: rest => List.replicate n l ++ expand rest

/-- The lengths in ticks a sensor uses (R70, R71): the high before its acknowledge, the acknowledge's low and high, the low
of each bit, the high of a 0 and of a 1, the end low. The source gives only the last but one two (R203). -/
structure SensorTiming where
  lead : Nat
  ackLow : Nat
  ackHigh : Nat
  bitLow : Nat
  zeroHigh : Nat
  oneHigh : Nat
  endLow : Nat
deriving DecidableEq, Repr

/-- The lengths of the nominal waveform of R85; stimulus values of the spec, not claims about a sensor (93 G1). -/
def SensorTiming.nominal : SensorTiming := ⟨20, 80, 80, 50, 27, 70, 50⟩

/-- The high phase that carries a bit (R71). -/
def SensorTiming.highOf (t : SensorTiming) (b : BitVec 1) : Nat := if b = 1 then t.oneHigh else t.zeroHigh

/-- The bits of a byte in the order of the line: bit 7 first (R54). -/
def byteBits (v : U8) : List (BitVec 1) :=
  [v.extractLsb' 7 1, v.extractLsb' 6 1, v.extractLsb' 5 1, v.extractLsb' 4 1, v.extractLsb' 3 1, v.extractLsb' 2 1,
   v.extractLsb' 1 1, v.extractLsb' 0 1]

/-- The 40 bits of a frame in the order of the line (R74). -/
def frameBits (f : Frame) : List (BitVec 1) :=
  byteBits f.b0 ++ byteBits f.b1 ++ byteBits f.b2 ++ byteBits f.b3 ++ byteBits f.b4

/-- Bits on the line: for each a low, then a high whose length carries its value (R71). -/
def SensorTiming.bitRuns (t : SensorTiming) : List (BitVec 1) → Waveform
  | [] => []
  | b :: rest => (.low, t.bitLow) :: (.high, t.highOf b) :: t.bitRuns rest

/-- What the sensor sends from `t_open` on for a frame (R70, R85). -/
def SensorTiming.frameRuns (t : SensorTiming) (f : Frame) : Waveform :=
  (.high, t.lead) :: (.low, t.ackLow) :: (.high, t.ackHigh) :: (t.bitRuns (frameBits f) ++ [(.low, t.endLow)])

/-- From the current tick on the line, left to the sensor, has these levels, one a tick. -/
abbrev State.sensorSends (s : State) (levels : List Level) : Prop :=
  ∀ k, k < levels.length → levels[k]? = some (s.sensorAt k)

end Sys2Proof.Machine
end

