-- ==== Sys2Proof/Safety.lean ====
section
/-! DEFINITION. What a safe run is: the state invariants of 10_state.md R39, the successor relation of
43_transaction_fsm.md R122, the sampling conditions of 42_bit_byte_decoder.md R115 and 70_reset_and_hazards.md R201, and
the duration bounds of 43_transaction_fsm.md R146. -/

namespace Sys2Proof

/-! ## Durations (R146) -/

/-- R146 (a): the least duration of a transaction. -/
def Params.leastDuration (p : Params) : Nat := p.reqLowUs.toNat + p.relHighUs.toNat

/-- R146 (b): the greatest duration, for limits of at least 1. -/
def Params.greatestDuration (p : Params) : Nat :=
  p.reqLowUs.toNat + p.relHighUs.toNat + (p.ackLowRetries.toNat - 1) + (p.ackHighRetries.toNat - 1) +
    40 * ((p.bitLowRetries.toNat - 1) + (p.bitHighRetries.toNat - 1) + p.sampleDelayUs.toNat) + p.endLowRetries.toNat

/-- R146 (b): every retry limit is at least 1. -/
abbrev Params.LimitsPositive (p : Params) : Prop :=
  1 ≤ p.ackLowRetries.toNat ∧ 1 ≤ p.ackHighRetries.toNat ∧ 1 ≤ p.bitLowRetries.toNat ∧ 1 ≤ p.bitHighRetries.toNat ∧
    1 ≤ p.endLowRetries.toNat

end Sys2Proof

namespace Sys2Proof.Machine

/-! ## The invariants of R39, one clause each -/

/-- R39 (a): between ticks `phase` is one of the nine codes 0 to 8; VALIDATE, RESTORE and the reserved codes never stand. -/
abbrev State.PhaseRests (s : State) : Prop := s.phase.toNat ≤ 8

/-- R39 (b): `busy` = 1 exactly when `phase` is not IDLE; `busy` and `done` are never both 1. -/
abbrev State.BusyByPhase (s : State) : Prop :=
  (s.busy = true ↔ s.phase ≠ Phase.idle) ∧ ¬(s.busy = true ∧ s.done = true)

/-- R39 (c): `pin_mode` = Output exactly in IDLE, REQ_LOW, REL_HIGH. -/
abbrev State.PinModeByPhase (s : State) : Prop :=
  s.pinMode = .output ↔ s.phase = Phase.idle ∨ s.phase = Phase.reqLow ∨ s.phase = Phase.relHigh

/-- R39 (d): `pin_level` = Low exactly in REQ_LOW. -/
abbrev State.PinLevelByPhase (s : State) : Prop := s.pinLevel = .low ↔ s.phase = Phase.reqLow

/-- R39 (e): in a delay phase `timer` is at most the loaded value, and at least 1. The lower bound is that of the exact
delays of this hardware; with slack (R91) a delay phase may also stand at 0. -/
abbrev State.TimerInDelay (s : State) : Prop :=
  (delayOperand s.params s.phase).all fun n =>
    decide (s.timer.toNat ≤ n.toNat ∧ (s.params.delaySlackMax = 0 → 1 ≤ s.timer.toNat))

/-- R39 (f): in a wait phase `retry` is at least 1 and at most the phase's limit. -/
abbrev State.RetryInWait (s : State) : Prop :=
  (waitOperands s.params s.phase).all fun gm => decide (1 ≤ s.retry.toNat ∧ s.retry.toNat ≤ gm.2.toNat)

/-- R39 (g): `byte_idx` is at most 4. -/
abbrev State.ByteIdxBounded (s : State) : Prop := s.byteIdx.val ≤ 4

/-- R39 (h): `err` is not 3, and not 0 only if `done` = 1. -/
abbrev State.ErrOnlyWhenDone (s : State) : Prop := s.err ≠ .noResponse ∧ (s.err ≠ .none → s.done = true)

/-- R39 (i): `reading` is all 0 unless `done` = 1 and `err` = 0. -/
abbrev State.ReadingZeroUnlessSuccess (s : State) : Prop :=
  s.reading ≠ ⟨0, 0, 0, 0⟩ → s.done = true ∧ s.err = .none

/-- R25, R32: a published reading is the payload of a frame that passed the checksum. -/
abbrev State.ReadingFromValidFrame (s : State) : Prop :=
  s.done = true → s.err = .none → frameValid s.frame = true ∧ s.reading = framePayload s.frame

/-- The model's own: the slack left is at most `DELAY_SLACK_MAX` (R91). -/
abbrev State.SlackBounded (s : State) : Prop := s.env.slack ≤ s.params.delaySlackMax

/-- The invariant of the machine between ticks. -/
abbrev State.Inv (s : State) : Prop :=
  s.PhaseRests ∧ s.BusyByPhase ∧ s.PinModeByPhase ∧ s.PinLevelByPhase ∧ s.TimerInDelay ∧ s.RetryInWait ∧ s.ByteIdxBounded ∧
    s.ErrOnlyWhenDone ∧ s.ReadingZeroUnlessSuccess ∧ s.ReadingFromValidFrame ∧ s.SlackBounded

/-- The model's own, about the host: a task that waits for `done` waits for a transaction that runs (R160). -/
abbrev State.TaskWaitsOnRun (s : State) : Prop := s.task.mode = .waiting → s.busy = true

/-! ## Runs -/

/-- `n` ticks of the machine. -/
abbrev runTicks (n : Nat) (s : State) : Result := Host.Core.run Sys2Proof.core n s

/-- Delays are exact, as on this hardware (R90; `DELAY_SLACK_MAX` = 0, so no slack is left of an earlier delay). -/
abbrev State.Exact (s : State) : Prop := s.params.delaySlackMax = 0 ∧ s.env.slack = 0

/-- The block rests in Output mode, ready for a `start` (R205), and no task owns it. -/
abbrev State.ReadyForCommand (s : State) : Prop :=
  s.phase = Phase.idle ∧ s.pinMode = .output ∧ s.task.mode = .notSpawned

/-! ## The successor relation of R122 -/

/-- The edges of R122, IDLE to IDLE left out. -/
def phaseEdges : List (BitVec 4 × BitVec 4) :=
  [(Phase.idle, Phase.reqLow), (Phase.reqLow, Phase.relHigh), (Phase.relHigh, Phase.ackWaitLow),
   (Phase.ackWaitLow, Phase.ackWaitHigh), (Phase.ackWaitLow, Phase.restore),
   (Phase.ackWaitHigh, Phase.bitWaitLow), (Phase.ackWaitHigh, Phase.restore),
   (Phase.bitWaitLow, Phase.bitWaitHigh), (Phase.bitWaitLow, Phase.restore),
   (Phase.bitWaitHigh, Phase.bitDelay), (Phase.bitWaitHigh, Phase.restore),
   (Phase.bitDelay, Phase.bitWaitLow), (Phase.bitDelay, Phase.endWaitLow),
   (Phase.endWaitLow, Phase.validate), (Phase.endWaitLow, Phase.restore),
   (Phase.validate, Phase.restore), (Phase.restore, Phase.idle)]

/-! ## Sensors that fit the parameters (R115, R201) -/

/-- The conditions on the bit symbol (R115), for a sensor whose pulses have fixed lengths: a 0 ends before the sample and
the low after it reaches past the sample, a 1 outlasts the sample, and no wait of a bit times out. -/
abbrev SensorTiming.BitsFit (t : SensorTiming) (p : Params) : Prop :=
  1 ≤ t.bitLow ∧ 1 ≤ t.zeroHigh ∧ t.zeroHigh ≤ p.sampleDelayUs.toNat ∧ p.sampleDelayUs.toNat < t.zeroHigh + t.bitLow ∧
    p.sampleDelayUs.toNat < t.oneHigh ∧ t.oneHigh - p.sampleDelayUs.toNat < p.bitLowRetries.toNat ∧
    t.bitLow < p.bitHighRetries.toNat

/-- The conditions on the handshake and the end of the frame (R201). -/
abbrev SensorTiming.HandshakeFits (t : SensorTiming) (p : Params) : Prop :=
  t.lead < p.ackLowRetries.toNat ∧ 1 ≤ t.ackLow ∧ t.ackLow < p.ackHighRetries.toNat ∧ 1 ≤ t.ackHigh ∧
    t.ackHigh < p.bitLowRetries.toNat ∧ p.sampleDelayUs.toNat < t.zeroHigh + t.endLow ∧ 1 ≤ t.endLow ∧
    t.oneHigh - p.sampleDelayUs.toNat < p.endLowRetries.toNat

/-- The ticks a well-timed sensor takes for the bits before the last, plus the last bit up to the tick at which the end low
is seen (95_test_vectors.md section 1, closed form; R146 (c)). -/
def SensorTiming.bitsDuration (t : SensorTiming) (p : Params) : List (BitVec 1) → Nat
  | [] => 0
  | [b] => t.bitLow + (if b = 1 then t.oneHigh else p.sampleDelayUs.toNat)
  | b :: rest => t.bitLow + t.highOf b + t.bitsDuration p rest

end Sys2Proof.Machine
end

