-- ==== Sys2Proof/Certificates/Slice0/Obligations.lean ====
section
/-! DEFINITION. The statements about the machine that the provers are to settle. Each docstring names the rules of spec/ it
rests on. "Exact" states are those of this hardware, whose delays have no slack (R90, R91). -/

open Sys2Proof Sys2Proof.Machine

/-! ## Encoding -/

/-- R76, R79: each 4-bit phase code and each level on `start`, written out, decodes to its row. -/
def Obligations.CodeWordsDecodeToTheirRows : Prop :=
  decode (.phase 0b0000#4) = .ok .idle ∧ decode (.phase 0b0001#4) = .ok .reqLow ∧
  decode (.phase 0b0010#4) = .ok .relHigh ∧ decode (.phase 0b0011#4) = .ok .ackWaitLow ∧
  decode (.phase 0b0100#4) = .ok .ackWaitHigh ∧ decode (.phase 0b0101#4) = .ok .bitWaitLow ∧
  decode (.phase 0b0110#4) = .ok .bitWaitHigh ∧ decode (.phase 0b0111#4) = .ok .bitDelay ∧
  decode (.phase 0b1000#4) = .ok .endWaitLow ∧ decode (.phase 0b1001#4) = .ok .validate ∧
  decode (.phase 0b1010#4) = .ok .restore ∧ decode (.phase 0b1011#4) = .ok .reserved1011 ∧
  decode (.phase 0b1100#4) = .ok (.reserved11xx 0b00#2) ∧ decode (.phase 0b1101#4) = .ok (.reserved11xx 0b01#2) ∧
  decode (.phase 0b1110#4) = .ok (.reserved11xx 0b10#2) ∧ decode (.phase 0b1111#4) = .ok (.reserved11xx 0b11#2) ∧
  decode (.command 1#1) = .ok .start ∧ decode (.command 0#1) = .error .noCommand

/-- R76, R79, R86: decoding the code word of an encoded instruction gives it back, and a decoded word is the code word of
what it decodes to. -/
def Obligations.DecodeAndEncodeAgree : Prop :=
  (∀ (i : Instr) (w : CodeWord), encode i = some w → decode w = .ok i) ∧
  (∀ (w : CodeWord) (i : Instr), decode w = .ok i → encode i = some w)

/-- R72, R73, R77: the codes of levels, pin modes and errors. -/
def Obligations.EnumerationCodes : Prop :=
  Level.code .low = 0 ∧ Level.code .high = 1 ∧ (∀ l : Level, Level.ofCode l.code = l) ∧
  PinMode.code .input = 0 ∧ PinMode.code .output = 1 ∧
  ErrCode.code .none = 0 ∧ ErrCode.code .timeout = 1 ∧ ErrCode.code .checksumMismatch = 2 ∧ ErrCode.code .noResponse = 3

/-! ## Reset -/

/-- R40, R190: the registers after reset and the outputs that follow. The parameters have no reset value (R35). -/
def Obligations.ResetStateIsTheTable : Prop :=
  State.reset.phase = Phase.idle ∧ State.reset.pinMode = .output ∧ State.reset.pinLevel = .high ∧
  State.reset.byteIdx = 0 ∧ State.reset.bitIdx = 0 ∧ State.reset.acc = 0 ∧ State.reset.frame = ⟨0, 0, 0, 0, 0⟩ ∧
  State.reset.reading = ⟨0, 0, 0, 0⟩ ∧ State.reset.timer = 0 ∧ State.reset.retry = 0 ∧ State.reset.busy = false ∧
  State.reset.done = false ∧ State.reset.err = .none ∧
  State.reset.lineOe = 1 ∧ State.reset.lineOut = 1 ∧ State.reset.busyPort = 0 ∧ State.reset.donePort = 0 ∧
  State.reset.errPort = 0 ∧ State.reset.humInt = 0 ∧ State.reset.humDec = 0 ∧ State.reset.tmpInt = 0 ∧
  State.reset.tmpDec = 0 ∧ State.reset.reading32Port = 0 ∧ State.reset.humidityTenthsPort = 0 ∧
  State.reset.temperatureTenthsPort = 0

/-- R39: the invariants hold at reset; so does the model's own about the task. The clause on the slack left is the
model's too (log 10). -/
def Obligations.ResetSatisfiesTheInvariants : Prop := State.reset.Inv ∧ State.reset.TaskWaitsOnRun

/-- R39: from every state that meets the invariants, reachable or not, a tick never stops and leads to a state that
meets them. Besides R39 the invariant holds the link of `reading` to a valid frame (R25, R32) and, as the model's own,
the bound on the slack left (log 10). -/
def Obligations.TickKeepsTheInvariantsAndNeverStops : Prop :=
  ∀ s : State, s.Inv → ∃ t : State, step s = .next t ∧ t.Inv

/-- R190, R191, R196: `rst` in any state drops whatever runs. The registers take their reset values, the parameters,
the model's result and the sensor's coming levels stay, the tick passes. What the task does is the model's reading of
R191 and R194 (log 18). The model's choices besides: the result field stays (log 12), the slack is cleared (log 10),
reset acts within its tick (log 27). -/
def Obligations.ResetInputDropsTheTransaction : Prop :=
  ∀ s : State, s.inputsNow.rst = true →
    step s = .next { State.reset with
      params := s.params, ret := s.ret, task := s.taskOnReset
      env := { tick := s.env.tick + 1, inputs := s.env.inputs.drop 1, slack := 0, draws := s.env.draws } }

/-! ## The tick -/

/-- R130, R76, R142: a tick without reset runs the instruction that the code word decodes to, after the passing of the tick
is counted. What the step adds: the zero-time loop goes on (at most six actions, R144) unless the action left `phase` as it
was or the block is idle; then the task acts and the tick ends
(how a tick is cut is the model's reading, logs 1 and 17). -/
def Obligations.TickRunsTheFetchedInstruction : Prop :=
  ∀ (s : State) (i : Instr), s.inputsNow.rst = false → decode s.beginTick.fetchWord = .ok i →
    step s =
      andThen
        (andThen (exec i s.beginTick) fun s1 =>
          if s1.phase = s.phase ∨ s1.phase = Phase.idle then .next s1 else runActions 5 s1)
        fun s2 => .next (s2.taskAct s.taskRaises).endTick

/-- R130, R183 (a), R152: what the passing of a tick counts, and which code word is fetched then: the command when the
block is idle and `start` is 1, else the phase code. That a timer at 0 stays at 0 is no sentence of R130: the model
reads it from R183 (a) and R152 (log 6). -/
def Obligations.FetchFollowsPhaseAndStart : Prop :=
  ∀ s : State,
    s.beginTick =
      (if s.phase = Phase.reqLow ∨ s.phase = Phase.relHigh ∨ s.phase = Phase.bitDelay then
        { s with timer := if s.timer = 0 then 0 else s.timer - 1 } else s) ∧
    s.fetchWord = (if s.phase = Phase.idle ∧ s.startNow = true then .command 1#1 else .phase s.phase) ∧
    (s.task.mode = .notSpawned → s.startNow = s.inputsNow.start)

/-- R8, R35, R63, R199: a tick consumes the ports of one tick, never more, and writes no parameter. That it leaves the
result field alone is the model's choice (log 12), and the queue of ports is the model's form of the inputs (log 2). -/
def Obligations.TickTakesOneTickAndKeepsParameters : Prop :=
  ∀ s t : State, step s = .next t →
    t.env.tick = s.env.tick + 1 ∧ t.env.inputs = s.env.inputs.drop 1 ∧ t.params = s.params ∧ t.ret = s.ret

/-- R35, R63, R199, R8: no operation writes a parameter; only PERIODIC_TASK touches the host; time never runs
backwards. That the host stands still while an operation, READ or DELAY_US among them, lets ticks pass is the model's
reading of R199 (log 15). Time is R8's. -/
def Obligations.OperationsKeepParametersAndHost : Prop :=
  ∀ (i : Instr) (s t : State), exec i s = .next t →
    t.params = s.params ∧ ((∀ ms, i ≠ .periodicTask ms) → t.task = s.task) ∧ s.env.tick ≤ t.env.tick

/-- R131, 95 V-S1: an idle block that sees no `start` keeps its whole state; only the tick passes. -/
def Obligations.IdleWithoutStartChangesNothing : Prop :=
  ∀ s : State, s.phase = Phase.idle → s.task.mode = .notSpawned → s.inputsNow.rst = false → s.inputsNow.start = false →
    step s = .next { s with env := { s.env with tick := s.env.tick + 1, inputs := s.env.inputs.drop 1 } }

/-- R142, R198: outside IDLE the level on `start` makes no difference of any kind to the tick. -/
def Obligations.StartWhileBusyLeavesNoTrace : Prop :=
  ∀ (s : State) (rest : List PortInputs) (p : PortInputs) (b : Bool), s.phase ≠ Phase.idle →
    step { s with env := { s.env with inputs := { p with start := b } :: rest } } =
      step { s with env := { s.env with inputs := p :: rest } }

/-- R90: during a delay the line is not read: the sensor's level makes no difference to the tick. -/
def Obligations.DelayDoesNotReadTheLine : Prop :=
  ∀ (s : State) (rest : List PortInputs) (p : PortInputs) (l : Level),
    (delayOperand s.params s.phase).isSome = true → 1 < s.timer.toNat →
    step { s with env := { s.env with inputs := { p with line := l } :: rest } } =
      step { s with env := { s.env with inputs := p :: rest } }

/-- R53: every read of a tick sees the sample of that tick: what the ports bring in later ticks makes no difference to
this one. The queue of coming ports is the model's form of the inputs (log 2). -/
def Obligations.TickReadsOnlyItsOwnSample : Prop :=
  ∀ (s : State) (p : PortInputs) (rest rest' : List PortInputs),
    step { s with env := { s.env with inputs := p :: rest' } } =
      andThen (step { s with env := { s.env with inputs := p :: rest } })
        fun t => .next { t with env := { t.env with inputs := rest' } }

/-- R143, R80: the reserved codes fault, as instructions and as a tick, and no run from reset reaches one. That
`phase` is a raw field which can hold them is the model's choice (log 24). -/
def Obligations.ReservedPhasesFaultAndAreUnreachable : Prop :=
  (∀ s : State, exec .reserved1011 s = .fault (.reservedPhase 0b1011#4)) ∧
  (∀ (low : BitVec 2) (s : State), exec (.reserved11xx low) s = .fault (.reservedPhase (0b11#2 ++ low))) ∧
  (∀ s : State, s.inputsNow.rst = false → 11 ≤ s.phase.toNat → step s = .fault (.reservedPhase s.phase)) ∧
  (∀ (n : Nat) (t : State), runTicks n State.reset = .next t → t.phase.toNat < 11)

/-- R144: from every state whatever the zero-time loop of a tick ends within six actions; a longer allowance changes
nothing, and the bound's own fault is never raised. States that no run reaches are the model's addition to R144, and
so is that fault (log 23). -/
def Obligations.AtMostSixActionsInATick : Prop :=
  ∀ s : State, (∀ n : Nat, runActions (6 + n) s = runActions 6 s) ∧ runActions 6 s ≠ .fault .actionBoundExceeded

/-- R122: an action leaves `phase` as it is or follows one edge of the successor relation. What is one action is the
model's reading (log 1). -/
def Obligations.PhasesFollowTheSuccessorRelation : Prop :=
  ∀ (s t : State) (i : Instr), decode s.fetchWord = .ok i → exec i s = .next t →
    t.phase = s.phase ∨ (s.phase, t.phase) ∈ phaseEdges

/-! ## The phases, one action each: result, frame and completion -/

/-- R131, R142, R180: Begin, by START in IDLE and by the IDLE phase's own action when it sees `start`. Everything not
named is unchanged, `retry` among it. The model's choice: how a slack is drawn and kept (log 10). -/
def Obligations.StartBeginsATransaction : Prop :=
  ∀ s : State, s.pinMode = .output →
    (s.phase = Phase.idle →
      exec .start s = .next { s with
        phase := Phase.reqLow, timer := s.params.reqLowUs, pinLevel := .low, busy := true, done := false, err := .none
        reading := ⟨0, 0, 0, 0⟩, frame := ⟨0, 0, 0, 0, 0⟩, acc := 0, bitIdx := 0, byteIdx := 0
        env := { s.env with slack := s.slackDrawn, draws := s.drawsAfter } }) ∧
    (s.startNow = true →
      exec .idle s = .next { s with
        phase := Phase.reqLow, timer := s.params.reqLowUs, pinLevel := .low, busy := true, done := false, err := .none
        reading := ⟨0, 0, 0, 0⟩, frame := ⟨0, 0, 0, 0, 0⟩, acc := 0, bitIdx := 0, byteIdx := 0
        env := { s.env with slack := s.slackDrawn, draws := s.drawsAfter } })

/-- R131, R142: with `start` at 0 the IDLE action changes nothing; a START outside IDLE changes nothing; and Begin's
`SetLevel(Low)` has no meaning in Input mode, so there both are refused (R94, log 8). -/
def Obligations.StartIgnoredOrRefused : Prop :=
  ∀ s : State,
    (s.startNow = false → exec .idle s = .next s) ∧
    (s.phase ≠ Phase.idle → exec .start s = .next s) ∧
    (s.pinMode = .input → s.phase = Phase.idle → exec .start s = .refused .setLevelInInputMode) ∧
    (s.pinMode = .input → s.startNow = true → exec .idle s = .refused .setLevelInInputMode)

/-- R132, R133, R138, R91: a delay phase is blocked while `timer` is not 0, changing nothing, and then while slack is
left, using up one tick of it. That the slack runs down after the timer is the model's choice (log 10). -/
def Obligations.DelayPhasesBlock : Prop :=
  ∀ (s : State) (i : Instr), i = .reqLow ∨ i = .relHigh ∨ i = .bitDelay →
    (s.timer ≠ 0 → exec i s = .next s) ∧
    (s.timer = 0 → s.env.slack ≠ 0 → exec i s = .next { s with env := { s.env with slack := s.env.slack - 1 } })

/-- R132: at the end of the request pulse the line is driven high and REL_HIGH entered with its delay; in Input mode
`SetLevel` has no meaning (log 8). The model's choice besides: how a slack is drawn and kept (log 10). -/
def Obligations.ReqLowEndsDrivingHigh : Prop :=
  ∀ s : State, s.timer = 0 → s.env.slack = 0 →
    (s.pinMode = .output →
      exec .reqLow s = .next { s with
        pinLevel := .high, phase := Phase.relHigh, timer := s.params.relHighUs
        env := { s.env with slack := s.slackDrawn, draws := s.drawsAfter } }) ∧
    (s.pinMode = .input → exec .reqLow s = .refused .setLevelInInputMode)

/-- R133: at the end of the release the pin is switched to input, `pin_level` stays, ACK_WAIT_LOW is entered with `retry`
at 0. -/
def Obligations.RelHighReleasesTheLine : Prop :=
  ∀ s : State, s.timer = 0 → s.env.slack = 0 →
    exec .relHigh s = .next { s with pinMode := .input, phase := Phase.ackWaitLow, retry := 0 }

/-- R101, R103, R134 to R137, R139: a poll that matches. The three wait successors are entered with `retry` at 0;
BIT_DELAY is entered with its delay and VALIDATE with nothing, and both keep the poll count in `retry`. The model's
choices: what `line` is in Output mode, where no run polls (log 9), and how a slack is drawn and kept (log 10). -/
def Obligations.MatchingPollGoesOn : Prop :=
  ∀ s : State, s.env.slack = 0 →
    (s.retry ≠ s.params.ackLowRetries → s.line = .low →
      exec .ackWaitLow s = .next { s with phase := Phase.ackWaitHigh, retry := 0 }) ∧
    (s.retry ≠ s.params.ackHighRetries → s.line = .high →
      exec .ackWaitHigh s = .next { s with phase := Phase.bitWaitLow, retry := 0 }) ∧
    (s.retry ≠ s.params.bitLowRetries → s.line = .low →
      exec .bitWaitLow s = .next { s with phase := Phase.bitWaitHigh, retry := 0 }) ∧
    (s.retry ≠ s.params.bitHighRetries → s.line = .high →
      exec .bitWaitHigh s = .next { s with
        phase := Phase.bitDelay, timer := s.params.sampleDelayUs, retry := s.retry + 1
        env := { s.env with slack := s.slackDrawn, draws := s.drawsAfter } }) ∧
    (s.retry ≠ s.params.endLowRetries → s.line = .low →
      exec .endWaitLow s = .next { s with phase := Phase.validate, retry := s.retry + 1 })

/-- R101, R103: a poll that does not match counts in `retry` and blocks; the 1-tick delay it starts draws its slack
(R91). One statement for the five rows of R103. The model's choices: what `line` is in Output mode and a `retry` above
its limit, which no run has (logs 9 and 7), and how a slack is drawn and kept (log 10). -/
def Obligations.MismatchingPollBlocks : Prop :=
  ∀ (s : State) (g : Level) (m : BitVec 8), waitOperands s.params s.phase = some (g, m) →
    s.env.slack = 0 → s.retry ≠ m → s.line ≠ g →
    exec (decodePhase s.phase) s = .next { s with
      retry := s.retry + 1, env := { s.env with slack := s.slackDrawn, draws := s.drawsAfter } }

/-- R101, R103, R173, R177: when the limit is reached the wait raises `Timeout` without polling, whatever the line
holds; only END_WAIT_LOW with `FRAME_END_STRICT` = 0 goes on to VALIDATE instead (R139). The equality with the limit
decides also above it, where no run is (log 7); slack left is spent first (log 10). -/
def Obligations.ExhaustedWaitRaisesTimeout : Prop :=
  ∀ (s : State) (g : Level) (m : BitVec 8), waitOperands s.params s.phase = some (g, m) →
    s.env.slack = 0 → s.retry = m →
    exec (decodePhase s.phase) s = .next
      (if s.phase = Phase.endWaitLow ∧ s.params.frameEndStrict = false then { s with phase := Phase.validate }
       else { s with err := .timeout, phase := Phase.restore })

/-- R138: the sample at the end of BIT_DELAY: a bit inside a byte, the last bit of a byte other than the last, the
fortieth bit. What `line` is in Output mode, where no run samples, is the model's choice (log 9). -/
def Obligations.BitDelaySamplesAndAssembles : Prop :=
  ∀ s : State, s.timer = 0 → s.env.slack = 0 →
    (s.bitIdx ≠ 7 →
      exec .bitDelay s = .next { s with
        acc := (s.acc <<< 1) ||| (s.line.code).setWidth 8, bitIdx := s.bitIdx + 1, phase := Phase.bitWaitLow, retry := 0 }) ∧
    (s.bitIdx = 7 → ∀ h : s.byteIdx.val + 1 < 5,
      exec .bitDelay s = .next { s with
        frame := frameSet s.frame s.byteIdx ((s.acc <<< 1) ||| (s.line.code).setWidth 8), acc := 0, bitIdx := 0
        byteIdx := ⟨s.byteIdx.val + 1, h⟩, phase := Phase.bitWaitLow, retry := 0 }) ∧
    (s.bitIdx = 7 → s.byteIdx = 4 →
      exec .bitDelay s = .next { s with
        frame := { s.frame with b4 := (s.acc <<< 1) ||| (s.line.code).setWidth 8 }, acc := 0, bitIdx := 0
        phase := Phase.endWaitLow, retry := 0 })

/-- R140, R172: VALIDATE publishes the payload or raises `ChecksumMismatch` with `reading` not written; RESTORE is next. -/
def Obligations.ValidatePublishesOrRaises : Prop :=
  ∀ s : State,
    exec .validate s = .next
      (if (s.frame.b0.toNat + s.frame.b1.toNat + s.frame.b2.toNat + s.frame.b3.toNat) % 256 = s.frame.b4.toNat then
        { s with reading := ⟨s.frame.b0, s.frame.b1, s.frame.b2, s.frame.b3⟩, phase := Phase.restore }
       else { s with err := .checksumMismatch, phase := Phase.restore })

/-- R141: RESTORE drives the line high, clears `busy`, sets `done`, goes to IDLE, and writes nothing else. -/
def Obligations.RestorePublishesAndRests : Prop :=
  ∀ s : State,
    exec .restore s = .next { s with
      pinMode := .output, pinLevel := .high, busy := false, done := true, phase := Phase.idle }

/-! ## Errors in a whole tick -/

/-- R173, R179: a wait phase that finds its limit reached ends the transaction in that very tick: `err`, then
RESTORE's writes, then the end of the tick; nothing else changes. The strict form of FrameEnd (R139). That slack left
would be spent first is the model's choice (log 10). -/
def Obligations.TimeoutEndsTheTransactionInOneTick : Prop :=
  ∀ (s : State) (g : Level) (m : BitVec 8), s.inputsNow.rst = false → s.task.mode = .notSpawned →
    waitOperands s.params s.phase = some (g, m) → s.params.frameEndStrict = true → s.env.slack = 0 → s.retry = m →
    step s = .next { s with
      err := .timeout, pinMode := .output, pinLevel := .high, busy := false, done := true, phase := Phase.idle
      env := { s.env with tick := s.env.tick + 1, inputs := s.env.inputs.drop 1 } }

/-- R174, R81: no operation and no tick produces `NoResponse`. That the type can hold it is the model's reading (log
25). -/
def Obligations.NoResponseIsNeverProduced : Prop :=
  (∀ (i : Instr) (s t : State), exec i s = .next t → t.err = .noResponse → s.err = .noResponse) ∧
  (∀ s t : State, step s = .next t → t.err = .noResponse → s.err = .noResponse) ∧
  (∀ (n : Nat) (t : State), runTicks n State.reset = .next t → t.err ≠ .noResponse)

/-- R141, R205: a transaction that ends in a tick leaves the line driven high, `busy` 0, `done` 1 and the block idle, and
the published result is one of R32's. -/
def Obligations.TransactionEndsRestored : Prop :=
  ∀ s t : State, s.Inv → s.busy = true → s.inputsNow.rst = false → step s = .next t → t.busy = false →
    t.phase = Phase.idle ∧ t.pinMode = .output ∧ t.pinLevel = .high ∧ t.done = true ∧
    ((t.err = .none ∧ frameValid t.frame = true ∧ t.reading = framePayload t.frame) ∨
     (t.err = .timeout ∧ t.reading = ⟨0, 0, 0, 0⟩) ∨ (t.err = .checksumMismatch ∧ t.reading = ⟨0, 0, 0, 0⟩))

/-! ## The primitives -/

/-- R90, R91: DELAY_US. On exact delays `n` ticks pass and `timer` has run down to 0; with slack between `n` and `n +
DELAY_SLACK_MAX` ticks pass. Nothing else changes. The model's choices: how a slack is drawn and kept (log 10), and
that in its ticks nothing else acts (log 15). -/
def Obligations.DelayLetsTicksPass : Prop :=
  ∀ (n : BitVec 15) (s : State),
    (s.Exact → exec (.delayUs n) s = .next { s with
      timer := 0, env := { s.env with tick := s.env.tick + n.toNat, inputs := s.env.inputs.drop n.toNat } }) ∧
    (∃ x : Nat, x ≤ s.params.delaySlackMax ∧ exec (.delayUs n) s = .next { s with
      timer := 0
      env := { tick := s.env.tick + (n.toNat + x), inputs := s.env.inputs.drop (n.toNat + x), slack := 0
               draws := s.drawsAfter } })

/-- R92 to R95, R57: the pin operations, in the mode that allows them and in the mode that does not. The model's
choice: that READ_LEVEL's answer stands in the result field (log 12). -/
def Obligations.PinOperations : Prop :=
  ∀ s : State,
    exec .configureOutput s = .next { s with pinMode := .output } ∧
    exec .configureInput s = .next { s with pinMode := .input } ∧
    (s.pinMode = .output → ∀ v : Level, exec (.setLevel v) s = .next { s with pinLevel := v }) ∧
    (s.pinMode = .input → ∀ v : Level, exec (.setLevel v) s = .refused .setLevelInInputMode) ∧
    (s.pinMode = .input → exec .readLevel s = .next { s with ret := .level (s.sensorAt 0) }) ∧
    (s.pinMode = .output → exec .readLevel s = .refused .readLevelInOutputMode)

/-- R36, R86 (c), R206: the pad control word of a state that meets the invariants is 10 in REQ_LOW, 11 in IDLE and
REL_HIGH, 01 in every phase that listens. -/
def Obligations.PadWordFollowsThePhase : Prop :=
  ∀ s : State, s.Inv →
    s.padWord =
      (if s.phase = Phase.reqLow then 0b10#2
       else if s.phase = Phase.idle ∨ s.phase = Phase.relHigh then 0b11#2 else 0b01#2)

/-! ## The composite operations -/

/-- R100, R104: WAIT_FOR_LEVEL. With the first match at poll `k + 1`, within the limit, it ends `k` ticks later with
that poll count; with no match in the limit it raises `Timeout` after exactly that many polls and ticks. Slack is
left out, and Output mode is the matter of `ListeningNeedsInputMode`. The model's choices: that the answer stands in
the result field and a lone failure writes `err` without RESTORE (log 12), and that in its ticks nothing else acts
(log 15). -/
def Obligations.WaitForLevelIsBounded : Prop :=
  ∀ (s : State) (g : Level) (m : BitVec 8), s.pinMode = .input → s.Exact →
    (∀ k : Nat, k < m.toNat → s.sensorAt k = g → (∀ j : Nat, j < k → s.sensorAt j ≠ g) →
      exec (.waitForLevel g m) s = .next { s with
        retry := BitVec.ofNat 8 (k + 1), ret := .ok
        env := { s.env with tick := s.env.tick + k, inputs := s.env.inputs.drop k } }) ∧
    ((∀ j : Nat, j < m.toNat → s.sensorAt j ≠ g) →
      exec (.waitForLevel g m) s = .next { s with
        retry := m, err := .timeout, ret := .error .timeout
        env := { s.env with tick := s.env.tick + m.toNat, inputs := s.env.inputs.drop m.toNat } })

/-- R110, R111: READ_BIT. The first low is polled `a` ticks from now and the first high after it `b` ticks later, both
within their limits; the bit is the one sample `SAMPLE_DELAY_US` ticks after that. The model's choices: that the
answer stands in the result field (log 12), and that in its ticks nothing else acts (log 15). -/
def Obligations.ReadBitIsOneSample : Prop :=
  ∀ (s : State) (a b : Nat), s.pinMode = .input → s.Exact →
    a < s.params.bitLowRetries.toNat → s.sensorAt a = .low → (∀ j : Nat, j < a → s.sensorAt j = .high) →
    b < s.params.bitHighRetries.toNat → s.sensorAt (a + b) = .high → (∀ j : Nat, j < b → s.sensorAt (a + j) = .low) →
    exec .readBit s = .next { s with
      retry := BitVec.ofNat 8 (b + 1), timer := 0
      ret := .bit (s.sensorAt (a + b + s.params.sampleDelayUs.toNat)).code
      env := { s.env with
        tick := s.env.tick + (a + b + s.params.sampleDelayUs.toNat)
        inputs := s.env.inputs.drop (a + b + s.params.sampleDelayUs.toNat) } }

/-- R110, R114: READ_BIT times out in the wait that is not met, at the tick its limit runs out. That a lone READ_BIT
then writes `err`, does not go to RESTORE, and answers in the result field is the model's choice (log 12). -/
def Obligations.ReadBitTimesOut : Prop :=
  ∀ s : State, s.pinMode = .input → s.Exact →
    ((∀ j : Nat, j < s.params.bitLowRetries.toNat → s.sensorAt j = .high) →
      exec .readBit s = .next { s with
        retry := s.params.bitLowRetries, err := .timeout, ret := .error .timeout
        env := { s.env with
          tick := s.env.tick + s.params.bitLowRetries.toNat, inputs := s.env.inputs.drop s.params.bitLowRetries.toNat } }) ∧
    (∀ a : Nat, a < s.params.bitLowRetries.toNat → s.sensorAt a = .low → (∀ j : Nat, j < a → s.sensorAt j = .high) →
      (∀ j : Nat, j < s.params.bitHighRetries.toNat → s.sensorAt (a + j) = .low) →
      exec .readBit s = .next { s with
        retry := s.params.bitHighRetries, err := .timeout, ret := .error .timeout
        env := { s.env with
          tick := s.env.tick + (a + s.params.bitHighRetries.toNat)
          inputs := s.env.inputs.drop (a + s.params.bitHighRetries.toNat) } })

/-- R95, R100, R104 (c), R110, R112, 93 U2: the listening operations need Input mode (log 9). In Output mode each is
refused at its first poll; a WAIT_FOR_LEVEL with limit 0 makes no poll and raises `Timeout` in any mode. Where the
error of the last is written is log 12. -/
def Obligations.ListeningNeedsInputMode : Prop :=
  ∀ s : State,
    (s.pinMode = .output → ∀ (g : Level) (m : BitVec 8), m ≠ 0 →
      exec (.waitForLevel g m) s = .refused .readLevelInOutputMode) ∧
    (∀ g : Level, exec (.waitForLevel g 0) s = .next { s with retry := 0, err := .timeout, ret := .error .timeout }) ∧
    (s.pinMode = .output → s.params.bitLowRetries ≠ 0 →
      exec .readBit s = .refused .readLevelInOutputMode ∧ exec .readByte s = .refused .readLevelInOutputMode)

/-- R111: a high phase of `w` ticks that begins while the block polls is read as 1 if `w` exceeds `SAMPLE_DELAY_US`,
and as 0 if it does not and the low after it reaches past the sample. The model's choice: that the answer stands in
the result field (log 12). -/
def Obligations.HighPhaseLengthDecidesTheBit : Prop :=
  ∀ (s : State) (l w : Nat), s.pinMode = .input → s.Exact →
    1 ≤ l → l < s.params.bitHighRetries.toNat → 1 ≤ s.params.bitLowRetries.toNat → 1 ≤ w →
    (∀ j : Nat, j < l → s.sensorAt j = .low) → (∀ j : Nat, j < w → s.sensorAt (l + j) = .high) →
    (s.params.sampleDelayUs.toNat < w → ∃ t : State, exec .readBit s = .next t ∧ t.ret = .bit 1) ∧
    (w ≤ s.params.sampleDelayUs.toNat →
      (∀ j : Nat, w ≤ j → j ≤ s.params.sampleDelayUs.toNat → s.sensorAt (l + j) = .low) →
      ∃ t : State, exec .readBit s = .next t ∧ t.ret = .bit 0)

/-- R112, R54, R115: READ_BYTE reads back, most significant bit first, the byte a well-timed sensor sends, for every byte
and every set of pulse lengths that fits the parameters. The byte goes to `frame[byte_idx]`, `acc` and `bit_idx` are left at 0,
`timer` has run down to 0 and `retry` holds some count; no other register changes. That a lone READ_BYTE clears `acc` and
`bit_idx` and does not move `byte_idx` is the model's reading (log 16); its answer is in the model's result field (log 12). -/
def Obligations.ReadByteDecodesAWellTimedByte : Prop :=
  ∀ (s : State) (t : SensorTiming) (v : U8), s.pinMode = .input → s.Exact → t.BitsFit s.params →
    s.sensorSends (expand (t.bitRuns (byteBits v) ++ [(.low, t.bitLow)])) →
    ∃ (n : Nat) (r : BitVec 8),
      exec .readByte s = .next { s with
        frame := frameSet s.frame s.byteIdx v, acc := 0, bitIdx := 0, timer := 0, retry := r, ret := .byte v
        env := { s.env with tick := s.env.tick + n, inputs := s.env.inputs.drop n } }

/-- R112, R114: a READ_BYTE that goes on either delivers a whole byte into `frame[byte_idx]`, or ends in `Timeout` and
keeps nothing of it in `frame`. Neither touches `byte_idx`, the pin, the result registers or the rest of `frame` (log
16). Where its answer and its error are written is the model's choice (log 12). -/
def Obligations.ReadByteIsAllOrNothing : Prop :=
  ∀ s t : State, exec .readByte s = .next t →
    t.byteIdx = s.byteIdx ∧ t.phase = s.phase ∧ t.pinMode = s.pinMode ∧ t.pinLevel = s.pinLevel ∧ t.busy = s.busy ∧
    t.done = s.done ∧ t.reading = s.reading ∧ t.params = s.params ∧ t.task = s.task ∧
    ((∃ v : U8, t.ret = .byte v ∧ t.frame = frameSet s.frame s.byteIdx v ∧ t.acc = 0 ∧ t.bitIdx = 0 ∧ t.err = s.err) ∨
     (t.ret = .error .timeout ∧ t.err = .timeout ∧ t.frame = s.frame))

/-- R120, R115, R201, R140, R146 (c): READ, with a sensor whose pulse lengths fit the parameters, receives exactly the
frame the sensor sends, for every frame; it succeeds with its payload or fails with `ChecksumMismatch` as the checksum
says, and ends at the tick the pulse lengths give. Only the registers named change. The model's choices: that the
answer stands in the result field (log 12), and that in its ticks nothing else acts (log 15). -/
def Obligations.ReadDecodesAWellTimedFrame : Prop :=
  ∀ (s : State) (t : SensorTiming) (f : Frame), s.phase = Phase.idle → s.pinMode = .output → s.Exact →
    t.BitsFit s.params → t.HandshakeFits s.params →
    (s.elapse (s.params.reqLowUs.toNat + s.params.relHighUs.toNat)).sensorSends (expand (t.frameRuns f)) →
    ∃ r : BitVec 8,
      exec .read s = .next { s with
        pinLevel := .high, busy := false, done := true, frame := f, acc := 0, bitIdx := 0, byteIdx := 4, timer := 0, retry := r
        err := if frameValid f = true then .none else .checksumMismatch
        reading := if frameValid f = true then framePayload f else ⟨0, 0, 0, 0⟩
        ret := if frameValid f = true then .reading (framePayload f) else .error .checksumMismatch
        env := (s.elapse (s.params.reqLowUs.toNat + s.params.relHighUs.toNat + t.lead + t.ackLow + t.ackHigh +
          t.bitsDuration s.params (frameBits f))).env }

/-- R171, R174, R146 (a): an absent sensor leaves the line high; READ then ends in `Timeout`, `ACK_LOW_RETRIES` ticks
after the release. The model's choices: that the answer stands in the result field (log 12), and that in its ticks
nothing else acts (log 15). -/
def Obligations.AbsentSensorTimesOut : Prop :=
  ∀ s : State, s.phase = Phase.idle → s.pinMode = .output → s.Exact →
    (∀ j : Nat, j < s.params.ackLowRetries.toNat →
      s.sensorAt (s.params.reqLowUs.toNat + s.params.relHighUs.toNat + j) = .high) →
    exec .read s = .next { s with
      pinLevel := .high, busy := false, done := true, err := .timeout, reading := ⟨0, 0, 0, 0⟩, frame := ⟨0, 0, 0, 0, 0⟩
      acc := 0, bitIdx := 0, byteIdx := 0, timer := 0, retry := s.params.ackLowRetries, ret := .error .timeout
      env := (s.elapse (s.params.reqLowUs.toNat + s.params.relHighUs.toNat + s.params.ackLowRetries.toNat)).env }

/-- R145: the ticks of the machine and the big-step READ agree. From a ready block that sees `start`, with no reset
before the end, as many ticks as READ takes lead to READ's own final state; the block is busy after every smaller
number. READ itself does not look at reset (log 15). READ's answer stands in the result field, which no tick writes
(log 12). -/
def Obligations.ReadAgreesWithTheTicks : Prop :=
  ∀ s t : State, s.ReadyForCommand → s.inputsNow.start = true → exec .read s = .next t →
    (∀ k : Nat, s.env.tick + k ≤ t.env.tick → s.rstAt k = false) →
    runTicks (t.env.tick - s.env.tick + 1) s = .next { t with
      ret := s.ret, env := { t.env with tick := t.env.tick + 1, inputs := t.env.inputs.drop 1 } } ∧
    (∀ k : Nat, 0 < k → s.env.tick + k ≤ t.env.tick → ∃ u : State, runTicks k s = .next u ∧ u.busy = true)

/-- R180, R205: what a transaction does depends only on the parameters, the environment and the host, not on how the
one before it ended or on any hidden register it left behind. The model's choices: that the answer stands in the
result field (log 12), and that in its ticks nothing else acts (log 15). -/
def Obligations.ReadForgetsTheLastTransaction : Prop :=
  ∀ s u : State, s.phase = Phase.idle → u.phase = Phase.idle → s.pinMode = u.pinMode → s.params = u.params → s.env = u.env →
    s.task = u.task → exec .read s = exec .read u

/-- R142, R120: a READ while the block is not idle is an ignored `start` (log 15); in Input mode its first `SetLevel`
has no meaning (log 8); otherwise it always completes. Its answer is in the result field (log 12). -/
def Obligations.ReadCompletesFromIdle : Prop :=
  ∀ s : State,
    (s.phase ≠ Phase.idle → exec .read s = .next s) ∧
    (s.phase = Phase.idle → s.pinMode = .input → exec .read s = .refused .setLevelInInputMode) ∧
    (s.phase = Phase.idle → s.pinMode = .output → ∃ t : State,
      exec .read s = .next t ∧ t.phase = Phase.idle ∧ t.pinMode = .output ∧ t.pinLevel = .high ∧ t.busy = false ∧
      t.done = true ∧
      ((t.err = .none ∧ frameValid t.frame = true ∧ t.reading = framePayload t.frame ∧ t.ret = .reading t.reading) ∨
       (t.err = .timeout ∧ t.reading = ⟨0, 0, 0, 0⟩ ∧ t.ret = .error .timeout) ∨
       (t.err = .checksumMismatch ∧ frameValid t.frame = false ∧ t.reading = ⟨0, 0, 0, 0⟩ ∧
        t.ret = .error .checksumMismatch)))

/-- R146 (a), (b): on exact delays every READ lasts at least the request pulse and the release, and, with limits of at
least 1, at most the bound of (b), whatever the sensor does. The model's choice: that in its ticks nothing else acts
(log 15). -/
def Obligations.ReadDurationIsBounded : Prop :=
  ∀ s t : State, s.phase = Phase.idle → s.Exact → exec .read s = .next t →
    s.env.tick + s.params.leastDuration ≤ t.env.tick ∧
    (s.params.LimitsPositive → t.env.tick ≤ s.env.tick + s.params.greatestDuration)

/-- R207, R204: in ticks, from every state of a running transaction that meets the invariants, on exact delays and with
limits of at least 1, the transaction ends within the bound of R146 (b), whatever the sensor does, unless reset comes. -/
def Obligations.EveryTransactionEnds : Prop :=
  ∀ s : State, s.Inv → s.Exact → s.params.LimitsPositive → s.busy = true →
    (∀ k : Nat, k ≤ s.params.greatestDuration → s.rstAt k = false) →
    ∃ (n : Nat) (t : State), n ≤ s.params.greatestDuration ∧ runTicks n s = .next t ∧ t.phase = Phase.idle ∧ t.done = true

/-! ## Checksum, reading, assembly -/

/-- R151: VALIDATE_FRAME answers the payload exactly when the fifth byte is the sum of the first four modulo 256, and
`ChecksumMismatch` otherwise; the phase VALIDATE writes that answer to `reading` or to `err`, and not to the other. That a lone
VALIDATE_FRAME writes nothing but the model's result field is the model's choice (log 11): R151 gives what is written only
for the FSM. -/
def Obligations.ValidateFrameAnswersByTheChecksum : Prop :=
  ∀ (f : Frame) (s : State),
    exec (.validateFrame f) s = .next { s with
      ret := if (f.b0.toNat + f.b1.toNat + f.b2.toNat + f.b3.toNat) % 256 = f.b4.toNat then
          .reading ⟨f.b0, f.b1, f.b2, f.b3⟩
        else .error .checksumMismatch } ∧
    ∃ t : State, exec .validate { s with frame := f } = .next t ∧
      ((f.b0.toNat + f.b1.toNat + f.b2.toNat + f.b3.toNat) % 256 = f.b4.toNat →
        t.reading = ⟨f.b0, f.b1, f.b2, f.b3⟩ ∧ t.err = s.err) ∧
      ((f.b0.toNat + f.b1.toNat + f.b2.toNat + f.b3.toNat) % 256 ≠ f.b4.toNat →
        t.reading = s.reading ∧ t.err = .checksumMismatch)

/-- R152: the checksum is the low byte of the exact sum, it does not depend on the order of the payload bytes, and every
payload has exactly one fifth byte that makes the frame valid. -/
def Obligations.ChecksumIsTheWrappingSum : Prop :=
  (∀ f : Frame, (checksum f).toNat = (f.b0.toNat + f.b1.toNat + f.b2.toNat + f.b3.toNat) % 256) ∧
  (∀ a b c d e : U8, checksum ⟨a, b, c, d, e⟩ = checksum ⟨b, a, c, d, e⟩ ∧ checksum ⟨a, b, c, d, e⟩ = checksum ⟨b, c, d, a, e⟩) ∧
  (∀ a b c d e : U8, frameValid ⟨a, b, c, d, e⟩ = true ↔ e = a + b + c + d)

/-- R157, with R153 and R154: HUMIDITY and TEMPERATURE answer ten times the exact rational, for all 2^16 pairs of
each; the greatest is 2805, so the 12-bit outputs never wrap. R153 and R154 define the results as the rationals; that
the operations answer their tenths is the model's choice, which R153 allows (log 20), and so is that alone they write
nothing but the result field (log 11). -/
def Obligations.PhysicalValuesAreExactTenths : Prop :=
  ∀ (r : Reading) (s : State), ∃ h t : Nat,
    exec (.humidity r) s = .next { s with ret := .tenths h } ∧
    exec (.temperature r) s = .next { s with ret := .tenths t } ∧
    h = 10 * r.humidityIntegral.toNat + r.humidityDecimal.toNat ∧ (h : Rat) = 10 * humidityValue r ∧ h ≤ 2805 ∧
    t = 10 * r.temperatureIntegral.toNat + r.temperatureDecimal.toNat ∧ (t : Rat) = 10 * temperatureValue r ∧ t ≤ 2805

/-- R157: the tenths outputs are `10 * integral + decimal`, unsigned, 12 bits, at most 2805, ten times the exact rational
for every field value, and 0 when `reading` is all 0; with the rule's two examples. -/
def Obligations.TenthsOutputs : Prop :=
  (∀ s : State,
    s.humidityTenthsPort.toNat = 10 * s.reading.humidityIntegral.toNat + s.reading.humidityDecimal.toNat ∧
    s.temperatureTenthsPort.toNat = 10 * s.reading.temperatureIntegral.toNat + s.reading.temperatureDecimal.toNat ∧
    s.humidityTenthsPort.toNat ≤ 2805 ∧ s.temperatureTenthsPort.toNat ≤ 2805 ∧
    (s.humidityTenthsPort.toNat : Rat) = 10 * humidityValue s.reading ∧
    (s.temperatureTenthsPort.toNat : Rat) = 10 * temperatureValue s.reading ∧
    (s.reading = ⟨0, 0, 0, 0⟩ → s.humidityTenthsPort = 0 ∧ s.temperatureTenthsPort = 0)) ∧
  humidityTenths ⟨0x32, 0x00, 0x15, 0x00⟩ = 500 ∧ temperatureTenths ⟨0x32, 0x00, 0x15, 0x00⟩ = 210 ∧
  humidityTenths ⟨0x2D, 0x07, 0x18, 0x03⟩ = 457 ∧ temperatureTenths ⟨0x2D, 0x07, 0x18, 0x03⟩ = 243

/-- R34, R78, R55, R74: the packing of `reading32` and of the frame on the line, first byte highest; the two agree on the
payload. -/
def Obligations.FirstByteIsHighest : Prop :=
  (∀ r : Reading, (reading32 r).toNat =
    r.humidityIntegral.toNat * 2 ^ 24 + r.humidityDecimal.toNat * 2 ^ 16 + r.temperatureIntegral.toNat * 2 ^ 8 +
      r.temperatureDecimal.toNat) ∧
  (∀ f : Frame, (frame40 f).toNat = (reading32 (framePayload f)).toNat * 2 ^ 8 + f.b4.toNat)

/-- R113, R54: the shift form, which BIT_DELAY uses, and the positional form give the same byte after eight bits, the first
bit highest; after the three bits 1, 0, 1 they differ as the rule says. -/
def Obligations.ShiftAndPositionalFormsAgree : Prop :=
  ∀ b0 b1 b2 b3 b4 b5 b6 b7 : BitVec 1,
    [b0, b1, b2, b3, b4, b5, b6, b7].foldl shiftIn 0 =
      placeBit (placeBit (placeBit (placeBit (placeBit (placeBit (placeBit (placeBit 0 0 b0) 1 b1) 2 b2) 3 b3) 4 b4) 5 b5) 6 b6) 7
        b7 ∧
    ([b0, b1, b2, b3, b4, b5, b6, b7].foldl shiftIn 0).toNat =
      128 * b0.toNat + 64 * b1.toNat + 32 * b2.toNat + 16 * b3.toNat + 8 * b4.toNat + 4 * b5.toNat + 2 * b6.toNat + b7.toNat ∧
    placeBit (placeBit (placeBit 0 0 1) 1 0) 2 1 = 0xA0 ∧ [1, 0, 1].foldl shiftIn 0 = (0x05 : U8) ∧
    (∀ s : State, s.timer = 0 → s.env.slack = 0 → s.bitIdx ≠ 7 → ∃ t : State,
      exec .bitDelay s = .next t ∧ t.acc = shiftIn s.acc s.line.code)

/-! ## The host -/

/-- R160, R161, R163: PERIODIC_TASK spawns the task, which calls at once; an interval below 2000 ms and a second owner
are refused (log 19). That the interval is an operand, fixed at the spawning, is the model's choice (log 28). That the
task exists only once spawned is log 17. -/
def Obligations.PeriodicTaskIsSpawnedOnce : Prop :=
  ∀ (ms : Nat) (s : State),
    (2000 ≤ ms → s.task.mode = .notSpawned →
      exec (.periodicTask ms) s = .next { s with task := ⟨.calling, ms, s.task.log⟩ }) ∧
    (ms < 2000 → exec (.periodicTask ms) s = .refused .intervalTooShort) ∧
    (2000 ≤ ms → s.task.mode ≠ .notSpawned → exec (.periodicTask ms) s = .refused .secondOwner)

/-- R160, R161, R162, R164: when the transaction a task waits for has ended, the task logs its result, the physical
values or the error kind, and suspends for its whole interval, after a success and a failure alike. That it does so in
that very tick is the model's choice (log 17). The form of the log's entries is the model's too (logs 20 and 21). -/
def Obligations.TaskLogsAndSuspendsInBothCases : Prop :=
  ∀ s t : State, s.inputsNow.rst = false → s.task.mode = .waiting → step s = .next t → t.done = true →
    t.task.mode = .suspended (s.env.tick + s.task.intervalMs * 1000) ∧ t.task.intervalMs = s.task.intervalMs ∧
    (t.err = .none → t.task.log = s.task.log ++
      [.info (10 * t.reading.humidityIntegral.toNat + t.reading.humidityDecimal.toNat)
        (10 * t.reading.temperatureIntegral.toNat + t.reading.temperatureDecimal.toNat)]) ∧
    (t.err ≠ .none → t.task.log = s.task.log ++ [.warning t.err])

/-- R166, R161: while the task is suspended the idle block does nothing, tick after tick, whatever is on `start`: the task
owns it (log 17). -/
def Obligations.SuspendedTaskKeepsTheBlockIdle : Prop :=
  ∀ (n : Nat) (s : State) (wake : Nat), s.phase = Phase.idle → s.task.mode = .suspended wake → s.env.tick + n ≤ wake →
    (∀ k : Nat, k < n → s.rstAt k = false) →
    runTicks n s = .next { s with env := { s.env with tick := s.env.tick + n, inputs := s.env.inputs.drop n } }

/-- R161, R165, 95 S7: between two ticks at which a task raises `start` at least 2 000 000 ticks pass, whatever the outcome
of the transaction between them and whatever reset does. Where the task stands in a tick, and that a reset suspends it, are
the model's choices (logs 17 and 18). -/
def Obligations.StartsAreTwoSecondsApart : Prop :=
  ∀ (n : Nat) (s t : State), 2000 ≤ s.task.intervalMs → s.taskRaises = true → 0 < n → runTicks n s = .next t →
    t.taskRaises = true → s.env.tick + 2000000 ≤ t.env.tick

/-- R160, R165, R207: in states that meet the invariants a waiting task waits for a transaction that runs, so with
termination it never waits for ever. It is the model's own invariant of its host (log 17). -/
def Obligations.WaitingTaskHasATransactionRunning : Prop :=
  ∀ s t : State, s.Inv → s.TaskWaitsOnRun → step s = .next t → t.TaskWaitsOnRun
end

