-- ==== Sys2Proof/Laws/State.lean ====
section
/-! SUPPORT. One lemma for each field of State under each named update of it (a field an update leaves to a case split is
stated in Laws/Ops.lean). -/

namespace Sys2Proof.Machine

/-! ## `State.elapse` -/

@[simp] theorem State.elapse_phase (s : State) (n : Nat) : (s.elapse n).phase = s.phase := rfl
@[simp] theorem State.elapse_byteIdx (s : State) (n : Nat) : (s.elapse n).byteIdx = s.byteIdx := rfl
@[simp] theorem State.elapse_bitIdx (s : State) (n : Nat) : (s.elapse n).bitIdx = s.bitIdx := rfl
@[simp] theorem State.elapse_acc (s : State) (n : Nat) : (s.elapse n).acc = s.acc := rfl
@[simp] theorem State.elapse_frame (s : State) (n : Nat) : (s.elapse n).frame = s.frame := rfl
@[simp] theorem State.elapse_reading (s : State) (n : Nat) : (s.elapse n).reading = s.reading := rfl
@[simp] theorem State.elapse_timer (s : State) (n : Nat) : (s.elapse n).timer = s.timer := rfl
@[simp] theorem State.elapse_retry (s : State) (n : Nat) : (s.elapse n).retry = s.retry := rfl
@[simp] theorem State.elapse_pinMode (s : State) (n : Nat) : (s.elapse n).pinMode = s.pinMode := rfl
@[simp] theorem State.elapse_pinLevel (s : State) (n : Nat) : (s.elapse n).pinLevel = s.pinLevel := rfl
@[simp] theorem State.elapse_busy (s : State) (n : Nat) : (s.elapse n).busy = s.busy := rfl
@[simp] theorem State.elapse_done (s : State) (n : Nat) : (s.elapse n).done = s.done := rfl
@[simp] theorem State.elapse_err (s : State) (n : Nat) : (s.elapse n).err = s.err := rfl
@[simp] theorem State.elapse_params (s : State) (n : Nat) : (s.elapse n).params = s.params := rfl
@[simp] theorem State.elapse_env (s : State) (n : Nat) : (s.elapse n).env = { s.env with tick := s.env.tick + n, inputs := s.env.inputs.drop n } := rfl
@[simp] theorem State.elapse_task (s : State) (n : Nat) : (s.elapse n).task = s.task := rfl
@[simp] theorem State.elapse_ret (s : State) (n : Nat) : (s.elapse n).ret = s.ret := rfl

/-! ## `State.drawSlack` -/

@[simp] theorem State.drawSlack_phase (s : State) : (s.drawSlack).phase = s.phase := rfl
@[simp] theorem State.drawSlack_byteIdx (s : State) : (s.drawSlack).byteIdx = s.byteIdx := rfl
@[simp] theorem State.drawSlack_bitIdx (s : State) : (s.drawSlack).bitIdx = s.bitIdx := rfl
@[simp] theorem State.drawSlack_acc (s : State) : (s.drawSlack).acc = s.acc := rfl
@[simp] theorem State.drawSlack_frame (s : State) : (s.drawSlack).frame = s.frame := rfl
@[simp] theorem State.drawSlack_reading (s : State) : (s.drawSlack).reading = s.reading := rfl
@[simp] theorem State.drawSlack_timer (s : State) : (s.drawSlack).timer = s.timer := rfl
@[simp] theorem State.drawSlack_retry (s : State) : (s.drawSlack).retry = s.retry := rfl
@[simp] theorem State.drawSlack_pinMode (s : State) : (s.drawSlack).pinMode = s.pinMode := rfl
@[simp] theorem State.drawSlack_pinLevel (s : State) : (s.drawSlack).pinLevel = s.pinLevel := rfl
@[simp] theorem State.drawSlack_busy (s : State) : (s.drawSlack).busy = s.busy := rfl
@[simp] theorem State.drawSlack_done (s : State) : (s.drawSlack).done = s.done := rfl
@[simp] theorem State.drawSlack_err (s : State) : (s.drawSlack).err = s.err := rfl
@[simp] theorem State.drawSlack_params (s : State) : (s.drawSlack).params = s.params := rfl
@[simp] theorem State.drawSlack_env (s : State) : (s.drawSlack).env = { s.env with slack := s.slackDrawn, draws := s.drawsAfter } := rfl
@[simp] theorem State.drawSlack_task (s : State) : (s.drawSlack).task = s.task := rfl
@[simp] theorem State.drawSlack_ret (s : State) : (s.drawSlack).ret = s.ret := rfl

/-! ## `State.passTicks` -/

@[simp] theorem State.passTicks_phase (s : State) (n : Nat) : (s.passTicks n).phase = s.phase := rfl
@[simp] theorem State.passTicks_byteIdx (s : State) (n : Nat) : (s.passTicks n).byteIdx = s.byteIdx := rfl
@[simp] theorem State.passTicks_bitIdx (s : State) (n : Nat) : (s.passTicks n).bitIdx = s.bitIdx := rfl
@[simp] theorem State.passTicks_acc (s : State) (n : Nat) : (s.passTicks n).acc = s.acc := rfl
@[simp] theorem State.passTicks_frame (s : State) (n : Nat) : (s.passTicks n).frame = s.frame := rfl
@[simp] theorem State.passTicks_reading (s : State) (n : Nat) : (s.passTicks n).reading = s.reading := rfl
@[simp] theorem State.passTicks_timer (s : State) (n : Nat) : (s.passTicks n).timer = s.timer := rfl
@[simp] theorem State.passTicks_retry (s : State) (n : Nat) : (s.passTicks n).retry = s.retry := rfl
@[simp] theorem State.passTicks_pinMode (s : State) (n : Nat) : (s.passTicks n).pinMode = s.pinMode := rfl
@[simp] theorem State.passTicks_pinLevel (s : State) (n : Nat) : (s.passTicks n).pinLevel = s.pinLevel := rfl
@[simp] theorem State.passTicks_busy (s : State) (n : Nat) : (s.passTicks n).busy = s.busy := rfl
@[simp] theorem State.passTicks_done (s : State) (n : Nat) : (s.passTicks n).done = s.done := rfl
@[simp] theorem State.passTicks_err (s : State) (n : Nat) : (s.passTicks n).err = s.err := rfl
@[simp] theorem State.passTicks_params (s : State) (n : Nat) : (s.passTicks n).params = s.params := rfl
@[simp] theorem State.passTicks_env (s : State) (n : Nat) : (s.passTicks n).env = ⟨s.env.tick + (n + s.slackDrawn), s.env.inputs.drop (n + s.slackDrawn), 0, s.drawsAfter⟩ := rfl
@[simp] theorem State.passTicks_task (s : State) (n : Nat) : (s.passTicks n).task = s.task := rfl
@[simp] theorem State.passTicks_ret (s : State) (n : Nat) : (s.passTicks n).ret = s.ret := rfl

/-! ## `State.delayUs` -/

@[simp] theorem State.delayUs_phase (s : State) (n : BitVec 15) : (s.delayUs n).phase = s.phase := rfl
@[simp] theorem State.delayUs_byteIdx (s : State) (n : BitVec 15) : (s.delayUs n).byteIdx = s.byteIdx := rfl
@[simp] theorem State.delayUs_bitIdx (s : State) (n : BitVec 15) : (s.delayUs n).bitIdx = s.bitIdx := rfl
@[simp] theorem State.delayUs_acc (s : State) (n : BitVec 15) : (s.delayUs n).acc = s.acc := rfl
@[simp] theorem State.delayUs_frame (s : State) (n : BitVec 15) : (s.delayUs n).frame = s.frame := rfl
@[simp] theorem State.delayUs_reading (s : State) (n : BitVec 15) : (s.delayUs n).reading = s.reading := rfl
@[simp] theorem State.delayUs_timer (s : State) (n : BitVec 15) : (s.delayUs n).timer = 0 := rfl
@[simp] theorem State.delayUs_retry (s : State) (n : BitVec 15) : (s.delayUs n).retry = s.retry := rfl
@[simp] theorem State.delayUs_pinMode (s : State) (n : BitVec 15) : (s.delayUs n).pinMode = s.pinMode := rfl
@[simp] theorem State.delayUs_pinLevel (s : State) (n : BitVec 15) : (s.delayUs n).pinLevel = s.pinLevel := rfl
@[simp] theorem State.delayUs_busy (s : State) (n : BitVec 15) : (s.delayUs n).busy = s.busy := rfl
@[simp] theorem State.delayUs_done (s : State) (n : BitVec 15) : (s.delayUs n).done = s.done := rfl
@[simp] theorem State.delayUs_err (s : State) (n : BitVec 15) : (s.delayUs n).err = s.err := rfl
@[simp] theorem State.delayUs_params (s : State) (n : BitVec 15) : (s.delayUs n).params = s.params := rfl
@[simp] theorem State.delayUs_env (s : State) (n : BitVec 15) : (s.delayUs n).env = (s.passTicks n.toNat).env := rfl
@[simp] theorem State.delayUs_task (s : State) (n : BitVec 15) : (s.delayUs n).task = s.task := rfl
@[simp] theorem State.delayUs_ret (s : State) (n : BitVec 15) : (s.delayUs n).ret = s.ret := rfl

/-! ## `State.endTick` -/

@[simp] theorem State.endTick_phase (s : State) : (s.endTick).phase = s.phase := rfl
@[simp] theorem State.endTick_byteIdx (s : State) : (s.endTick).byteIdx = s.byteIdx := rfl
@[simp] theorem State.endTick_bitIdx (s : State) : (s.endTick).bitIdx = s.bitIdx := rfl
@[simp] theorem State.endTick_acc (s : State) : (s.endTick).acc = s.acc := rfl
@[simp] theorem State.endTick_frame (s : State) : (s.endTick).frame = s.frame := rfl
@[simp] theorem State.endTick_reading (s : State) : (s.endTick).reading = s.reading := rfl
@[simp] theorem State.endTick_timer (s : State) : (s.endTick).timer = s.timer := rfl
@[simp] theorem State.endTick_retry (s : State) : (s.endTick).retry = s.retry := rfl
@[simp] theorem State.endTick_pinMode (s : State) : (s.endTick).pinMode = s.pinMode := rfl
@[simp] theorem State.endTick_pinLevel (s : State) : (s.endTick).pinLevel = s.pinLevel := rfl
@[simp] theorem State.endTick_busy (s : State) : (s.endTick).busy = s.busy := rfl
@[simp] theorem State.endTick_done (s : State) : (s.endTick).done = s.done := rfl
@[simp] theorem State.endTick_err (s : State) : (s.endTick).err = s.err := rfl
@[simp] theorem State.endTick_params (s : State) : (s.endTick).params = s.params := rfl
@[simp] theorem State.endTick_env (s : State) : (s.endTick).env = (s.elapse 1).env := rfl
@[simp] theorem State.endTick_task (s : State) : (s.endTick).task = s.task := rfl
@[simp] theorem State.endTick_ret (s : State) : (s.endTick).ret = s.ret := rfl

/-! ## `State.configureOutput` -/

@[simp] theorem State.configureOutput_phase (s : State) : (s.configureOutput).phase = s.phase := rfl
@[simp] theorem State.configureOutput_byteIdx (s : State) : (s.configureOutput).byteIdx = s.byteIdx := rfl
@[simp] theorem State.configureOutput_bitIdx (s : State) : (s.configureOutput).bitIdx = s.bitIdx := rfl
@[simp] theorem State.configureOutput_acc (s : State) : (s.configureOutput).acc = s.acc := rfl
@[simp] theorem State.configureOutput_frame (s : State) : (s.configureOutput).frame = s.frame := rfl
@[simp] theorem State.configureOutput_reading (s : State) : (s.configureOutput).reading = s.reading := rfl
@[simp] theorem State.configureOutput_timer (s : State) : (s.configureOutput).timer = s.timer := rfl
@[simp] theorem State.configureOutput_retry (s : State) : (s.configureOutput).retry = s.retry := rfl
@[simp] theorem State.configureOutput_pinMode (s : State) : (s.configureOutput).pinMode = .output := rfl
@[simp] theorem State.configureOutput_pinLevel (s : State) : (s.configureOutput).pinLevel = s.pinLevel := rfl
@[simp] theorem State.configureOutput_busy (s : State) : (s.configureOutput).busy = s.busy := rfl
@[simp] theorem State.configureOutput_done (s : State) : (s.configureOutput).done = s.done := rfl
@[simp] theorem State.configureOutput_err (s : State) : (s.configureOutput).err = s.err := rfl
@[simp] theorem State.configureOutput_params (s : State) : (s.configureOutput).params = s.params := rfl
@[simp] theorem State.configureOutput_env (s : State) : (s.configureOutput).env = s.env := rfl
@[simp] theorem State.configureOutput_task (s : State) : (s.configureOutput).task = s.task := rfl
@[simp] theorem State.configureOutput_ret (s : State) : (s.configureOutput).ret = s.ret := rfl

/-! ## `State.configureInput` -/

@[simp] theorem State.configureInput_phase (s : State) : (s.configureInput).phase = s.phase := rfl
@[simp] theorem State.configureInput_byteIdx (s : State) : (s.configureInput).byteIdx = s.byteIdx := rfl
@[simp] theorem State.configureInput_bitIdx (s : State) : (s.configureInput).bitIdx = s.bitIdx := rfl
@[simp] theorem State.configureInput_acc (s : State) : (s.configureInput).acc = s.acc := rfl
@[simp] theorem State.configureInput_frame (s : State) : (s.configureInput).frame = s.frame := rfl
@[simp] theorem State.configureInput_reading (s : State) : (s.configureInput).reading = s.reading := rfl
@[simp] theorem State.configureInput_timer (s : State) : (s.configureInput).timer = s.timer := rfl
@[simp] theorem State.configureInput_retry (s : State) : (s.configureInput).retry = s.retry := rfl
@[simp] theorem State.configureInput_pinMode (s : State) : (s.configureInput).pinMode = .input := rfl
@[simp] theorem State.configureInput_pinLevel (s : State) : (s.configureInput).pinLevel = s.pinLevel := rfl
@[simp] theorem State.configureInput_busy (s : State) : (s.configureInput).busy = s.busy := rfl
@[simp] theorem State.configureInput_done (s : State) : (s.configureInput).done = s.done := rfl
@[simp] theorem State.configureInput_err (s : State) : (s.configureInput).err = s.err := rfl
@[simp] theorem State.configureInput_params (s : State) : (s.configureInput).params = s.params := rfl
@[simp] theorem State.configureInput_env (s : State) : (s.configureInput).env = s.env := rfl
@[simp] theorem State.configureInput_task (s : State) : (s.configureInput).task = s.task := rfl
@[simp] theorem State.configureInput_ret (s : State) : (s.configureInput).ret = s.ret := rfl

/-! ## `State.enterWait` -/

@[simp] theorem State.enterWait_phase (s : State) (c : BitVec 4) : (s.enterWait c).phase = c := rfl
@[simp] theorem State.enterWait_byteIdx (s : State) (c : BitVec 4) : (s.enterWait c).byteIdx = s.byteIdx := rfl
@[simp] theorem State.enterWait_bitIdx (s : State) (c : BitVec 4) : (s.enterWait c).bitIdx = s.bitIdx := rfl
@[simp] theorem State.enterWait_acc (s : State) (c : BitVec 4) : (s.enterWait c).acc = s.acc := rfl
@[simp] theorem State.enterWait_frame (s : State) (c : BitVec 4) : (s.enterWait c).frame = s.frame := rfl
@[simp] theorem State.enterWait_reading (s : State) (c : BitVec 4) : (s.enterWait c).reading = s.reading := rfl
@[simp] theorem State.enterWait_timer (s : State) (c : BitVec 4) : (s.enterWait c).timer = s.timer := rfl
@[simp] theorem State.enterWait_retry (s : State) (c : BitVec 4) : (s.enterWait c).retry = 0 := rfl
@[simp] theorem State.enterWait_pinMode (s : State) (c : BitVec 4) : (s.enterWait c).pinMode = s.pinMode := rfl
@[simp] theorem State.enterWait_pinLevel (s : State) (c : BitVec 4) : (s.enterWait c).pinLevel = s.pinLevel := rfl
@[simp] theorem State.enterWait_busy (s : State) (c : BitVec 4) : (s.enterWait c).busy = s.busy := rfl
@[simp] theorem State.enterWait_done (s : State) (c : BitVec 4) : (s.enterWait c).done = s.done := rfl
@[simp] theorem State.enterWait_err (s : State) (c : BitVec 4) : (s.enterWait c).err = s.err := rfl
@[simp] theorem State.enterWait_params (s : State) (c : BitVec 4) : (s.enterWait c).params = s.params := rfl
@[simp] theorem State.enterWait_env (s : State) (c : BitVec 4) : (s.enterWait c).env = s.env := rfl
@[simp] theorem State.enterWait_task (s : State) (c : BitVec 4) : (s.enterWait c).task = s.task := rfl
@[simp] theorem State.enterWait_ret (s : State) (c : BitVec 4) : (s.enterWait c).ret = s.ret := rfl

/-! ## `State.enterDelay` -/

@[simp] theorem State.enterDelay_phase (s : State) (c : BitVec 4) (n : BitVec 15) : (s.enterDelay c n).phase = c := rfl
@[simp] theorem State.enterDelay_byteIdx (s : State) (c : BitVec 4) (n : BitVec 15) : (s.enterDelay c n).byteIdx = s.byteIdx := rfl
@[simp] theorem State.enterDelay_bitIdx (s : State) (c : BitVec 4) (n : BitVec 15) : (s.enterDelay c n).bitIdx = s.bitIdx := rfl
@[simp] theorem State.enterDelay_acc (s : State) (c : BitVec 4) (n : BitVec 15) : (s.enterDelay c n).acc = s.acc := rfl
@[simp] theorem State.enterDelay_frame (s : State) (c : BitVec 4) (n : BitVec 15) : (s.enterDelay c n).frame = s.frame := rfl
@[simp] theorem State.enterDelay_reading (s : State) (c : BitVec 4) (n : BitVec 15) : (s.enterDelay c n).reading = s.reading := rfl
@[simp] theorem State.enterDelay_timer (s : State) (c : BitVec 4) (n : BitVec 15) : (s.enterDelay c n).timer = n := rfl
@[simp] theorem State.enterDelay_retry (s : State) (c : BitVec 4) (n : BitVec 15) : (s.enterDelay c n).retry = s.retry := rfl
@[simp] theorem State.enterDelay_pinMode (s : State) (c : BitVec 4) (n : BitVec 15) : (s.enterDelay c n).pinMode = s.pinMode := rfl
@[simp] theorem State.enterDelay_pinLevel (s : State) (c : BitVec 4) (n : BitVec 15) : (s.enterDelay c n).pinLevel = s.pinLevel := rfl
@[simp] theorem State.enterDelay_busy (s : State) (c : BitVec 4) (n : BitVec 15) : (s.enterDelay c n).busy = s.busy := rfl
@[simp] theorem State.enterDelay_done (s : State) (c : BitVec 4) (n : BitVec 15) : (s.enterDelay c n).done = s.done := rfl
@[simp] theorem State.enterDelay_err (s : State) (c : BitVec 4) (n : BitVec 15) : (s.enterDelay c n).err = s.err := rfl
@[simp] theorem State.enterDelay_params (s : State) (c : BitVec 4) (n : BitVec 15) : (s.enterDelay c n).params = s.params := rfl
@[simp] theorem State.enterDelay_env (s : State) (c : BitVec 4) (n : BitVec 15) : (s.enterDelay c n).env = { s.env with slack := s.slackDrawn, draws := s.drawsAfter } := rfl
@[simp] theorem State.enterDelay_task (s : State) (c : BitVec 4) (n : BitVec 15) : (s.enterDelay c n).task = s.task := rfl
@[simp] theorem State.enterDelay_ret (s : State) (c : BitVec 4) (n : BitVec 15) : (s.enterDelay c n).ret = s.ret := rfl

/-! ## `State.enterPhase` -/

@[simp] theorem State.enterPhase_phase (s : State) (c : BitVec 4) : (s.enterPhase c).phase = c := rfl
@[simp] theorem State.enterPhase_byteIdx (s : State) (c : BitVec 4) : (s.enterPhase c).byteIdx = s.byteIdx := rfl
@[simp] theorem State.enterPhase_bitIdx (s : State) (c : BitVec 4) : (s.enterPhase c).bitIdx = s.bitIdx := rfl
@[simp] theorem State.enterPhase_acc (s : State) (c : BitVec 4) : (s.enterPhase c).acc = s.acc := rfl
@[simp] theorem State.enterPhase_frame (s : State) (c : BitVec 4) : (s.enterPhase c).frame = s.frame := rfl
@[simp] theorem State.enterPhase_reading (s : State) (c : BitVec 4) : (s.enterPhase c).reading = s.reading := rfl
@[simp] theorem State.enterPhase_timer (s : State) (c : BitVec 4) : (s.enterPhase c).timer = s.timer := rfl
@[simp] theorem State.enterPhase_retry (s : State) (c : BitVec 4) : (s.enterPhase c).retry = s.retry := rfl
@[simp] theorem State.enterPhase_pinMode (s : State) (c : BitVec 4) : (s.enterPhase c).pinMode = s.pinMode := rfl
@[simp] theorem State.enterPhase_pinLevel (s : State) (c : BitVec 4) : (s.enterPhase c).pinLevel = s.pinLevel := rfl
@[simp] theorem State.enterPhase_busy (s : State) (c : BitVec 4) : (s.enterPhase c).busy = s.busy := rfl
@[simp] theorem State.enterPhase_done (s : State) (c : BitVec 4) : (s.enterPhase c).done = s.done := rfl
@[simp] theorem State.enterPhase_err (s : State) (c : BitVec 4) : (s.enterPhase c).err = s.err := rfl
@[simp] theorem State.enterPhase_params (s : State) (c : BitVec 4) : (s.enterPhase c).params = s.params := rfl
@[simp] theorem State.enterPhase_env (s : State) (c : BitVec 4) : (s.enterPhase c).env = s.env := rfl
@[simp] theorem State.enterPhase_task (s : State) (c : BitVec 4) : (s.enterPhase c).task = s.task := rfl
@[simp] theorem State.enterPhase_ret (s : State) (c : BitVec 4) : (s.enterPhase c).ret = s.ret := rfl

/-! ## `State.raise` -/

@[simp] theorem State.raise_phase (s : State) (e : ErrCode) : (s.raise e).phase = Phase.restore := rfl
@[simp] theorem State.raise_byteIdx (s : State) (e : ErrCode) : (s.raise e).byteIdx = s.byteIdx := rfl
@[simp] theorem State.raise_bitIdx (s : State) (e : ErrCode) : (s.raise e).bitIdx = s.bitIdx := rfl
@[simp] theorem State.raise_acc (s : State) (e : ErrCode) : (s.raise e).acc = s.acc := rfl
@[simp] theorem State.raise_frame (s : State) (e : ErrCode) : (s.raise e).frame = s.frame := rfl
@[simp] theorem State.raise_reading (s : State) (e : ErrCode) : (s.raise e).reading = s.reading := rfl
@[simp] theorem State.raise_timer (s : State) (e : ErrCode) : (s.raise e).timer = s.timer := rfl
@[simp] theorem State.raise_retry (s : State) (e : ErrCode) : (s.raise e).retry = s.retry := rfl
@[simp] theorem State.raise_pinMode (s : State) (e : ErrCode) : (s.raise e).pinMode = s.pinMode := rfl
@[simp] theorem State.raise_pinLevel (s : State) (e : ErrCode) : (s.raise e).pinLevel = s.pinLevel := rfl
@[simp] theorem State.raise_busy (s : State) (e : ErrCode) : (s.raise e).busy = s.busy := rfl
@[simp] theorem State.raise_done (s : State) (e : ErrCode) : (s.raise e).done = s.done := rfl
@[simp] theorem State.raise_err (s : State) (e : ErrCode) : (s.raise e).err = e := rfl
@[simp] theorem State.raise_params (s : State) (e : ErrCode) : (s.raise e).params = s.params := rfl
@[simp] theorem State.raise_env (s : State) (e : ErrCode) : (s.raise e).env = s.env := rfl
@[simp] theorem State.raise_task (s : State) (e : ErrCode) : (s.raise e).task = s.task := rfl
@[simp] theorem State.raise_ret (s : State) (e : ErrCode) : (s.raise e).ret = s.ret := rfl

/-! ## `State.restoreLine` -/

@[simp] theorem State.restoreLine_phase (s : State) : (s.restoreLine).phase = Phase.idle := rfl
@[simp] theorem State.restoreLine_byteIdx (s : State) : (s.restoreLine).byteIdx = s.byteIdx := rfl
@[simp] theorem State.restoreLine_bitIdx (s : State) : (s.restoreLine).bitIdx = s.bitIdx := rfl
@[simp] theorem State.restoreLine_acc (s : State) : (s.restoreLine).acc = s.acc := rfl
@[simp] theorem State.restoreLine_frame (s : State) : (s.restoreLine).frame = s.frame := rfl
@[simp] theorem State.restoreLine_reading (s : State) : (s.restoreLine).reading = s.reading := rfl
@[simp] theorem State.restoreLine_timer (s : State) : (s.restoreLine).timer = s.timer := rfl
@[simp] theorem State.restoreLine_retry (s : State) : (s.restoreLine).retry = s.retry := rfl
@[simp] theorem State.restoreLine_pinMode (s : State) : (s.restoreLine).pinMode = .output := rfl
@[simp] theorem State.restoreLine_pinLevel (s : State) : (s.restoreLine).pinLevel = .high := rfl
@[simp] theorem State.restoreLine_busy (s : State) : (s.restoreLine).busy = false := rfl
@[simp] theorem State.restoreLine_done (s : State) : (s.restoreLine).done = true := rfl
@[simp] theorem State.restoreLine_err (s : State) : (s.restoreLine).err = s.err := rfl
@[simp] theorem State.restoreLine_params (s : State) : (s.restoreLine).params = s.params := rfl
@[simp] theorem State.restoreLine_env (s : State) : (s.restoreLine).env = s.env := rfl
@[simp] theorem State.restoreLine_task (s : State) : (s.restoreLine).task = s.task := rfl
@[simp] theorem State.restoreLine_ret (s : State) : (s.restoreLine).ret = s.ret := rfl

/-! ## `State.clearForTransaction` -/

@[simp] theorem State.clearForTransaction_phase (s : State) : (s.clearForTransaction).phase = s.phase := rfl
@[simp] theorem State.clearForTransaction_byteIdx (s : State) : (s.clearForTransaction).byteIdx = 0 := rfl
@[simp] theorem State.clearForTransaction_bitIdx (s : State) : (s.clearForTransaction).bitIdx = 0 := rfl
@[simp] theorem State.clearForTransaction_acc (s : State) : (s.clearForTransaction).acc = 0 := rfl
@[simp] theorem State.clearForTransaction_frame (s : State) : (s.clearForTransaction).frame = ⟨0, 0, 0, 0, 0⟩ := rfl
@[simp] theorem State.clearForTransaction_reading (s : State) : (s.clearForTransaction).reading = ⟨0, 0, 0, 0⟩ := rfl
@[simp] theorem State.clearForTransaction_timer (s : State) : (s.clearForTransaction).timer = s.timer := rfl
@[simp] theorem State.clearForTransaction_retry (s : State) : (s.clearForTransaction).retry = s.retry := rfl
@[simp] theorem State.clearForTransaction_pinMode (s : State) : (s.clearForTransaction).pinMode = s.pinMode := rfl
@[simp] theorem State.clearForTransaction_pinLevel (s : State) : (s.clearForTransaction).pinLevel = s.pinLevel := rfl
@[simp] theorem State.clearForTransaction_busy (s : State) : (s.clearForTransaction).busy = true := rfl
@[simp] theorem State.clearForTransaction_done (s : State) : (s.clearForTransaction).done = false := rfl
@[simp] theorem State.clearForTransaction_err (s : State) : (s.clearForTransaction).err = .none := rfl
@[simp] theorem State.clearForTransaction_params (s : State) : (s.clearForTransaction).params = s.params := rfl
@[simp] theorem State.clearForTransaction_env (s : State) : (s.clearForTransaction).env = s.env := rfl
@[simp] theorem State.clearForTransaction_task (s : State) : (s.clearForTransaction).task = s.task := rfl
@[simp] theorem State.clearForTransaction_ret (s : State) : (s.clearForTransaction).ret = s.ret := rfl

/-! ## `State.keepBit` -/

@[simp] theorem State.keepBit_phase (s : State) (b : BitVec 1) : (s.keepBit b).phase = s.phase := rfl
@[simp] theorem State.keepBit_byteIdx (s : State) (b : BitVec 1) : (s.keepBit b).byteIdx = s.byteIdx := rfl
@[simp] theorem State.keepBit_bitIdx (s : State) (b : BitVec 1) : (s.keepBit b).bitIdx = s.bitIdx + 1 := rfl
@[simp] theorem State.keepBit_acc (s : State) (b : BitVec 1) : (s.keepBit b).acc = shiftIn s.acc b := rfl
@[simp] theorem State.keepBit_frame (s : State) (b : BitVec 1) : (s.keepBit b).frame = s.frame := rfl
@[simp] theorem State.keepBit_reading (s : State) (b : BitVec 1) : (s.keepBit b).reading = s.reading := rfl
@[simp] theorem State.keepBit_timer (s : State) (b : BitVec 1) : (s.keepBit b).timer = s.timer := rfl
@[simp] theorem State.keepBit_retry (s : State) (b : BitVec 1) : (s.keepBit b).retry = s.retry := rfl
@[simp] theorem State.keepBit_pinMode (s : State) (b : BitVec 1) : (s.keepBit b).pinMode = s.pinMode := rfl
@[simp] theorem State.keepBit_pinLevel (s : State) (b : BitVec 1) : (s.keepBit b).pinLevel = s.pinLevel := rfl
@[simp] theorem State.keepBit_busy (s : State) (b : BitVec 1) : (s.keepBit b).busy = s.busy := rfl
@[simp] theorem State.keepBit_done (s : State) (b : BitVec 1) : (s.keepBit b).done = s.done := rfl
@[simp] theorem State.keepBit_err (s : State) (b : BitVec 1) : (s.keepBit b).err = s.err := rfl
@[simp] theorem State.keepBit_params (s : State) (b : BitVec 1) : (s.keepBit b).params = s.params := rfl
@[simp] theorem State.keepBit_env (s : State) (b : BitVec 1) : (s.keepBit b).env = s.env := rfl
@[simp] theorem State.keepBit_task (s : State) (b : BitVec 1) : (s.keepBit b).task = s.task := rfl
@[simp] theorem State.keepBit_ret (s : State) (b : BitVec 1) : (s.keepBit b).ret = s.ret := rfl

/-! ## `State.storeByte` -/

@[simp] theorem State.storeByte_phase (s : State) (v : U8) : (s.storeByte v).phase = s.phase := rfl
@[simp] theorem State.storeByte_byteIdx (s : State) (v : U8) : (s.storeByte v).byteIdx = s.byteIdx := rfl
@[simp] theorem State.storeByte_bitIdx (s : State) (v : U8) : (s.storeByte v).bitIdx = 0 := rfl
@[simp] theorem State.storeByte_acc (s : State) (v : U8) : (s.storeByte v).acc = 0 := rfl
@[simp] theorem State.storeByte_frame (s : State) (v : U8) : (s.storeByte v).frame = frameSet s.frame s.byteIdx v := rfl
@[simp] theorem State.storeByte_reading (s : State) (v : U8) : (s.storeByte v).reading = s.reading := rfl
@[simp] theorem State.storeByte_timer (s : State) (v : U8) : (s.storeByte v).timer = s.timer := rfl
@[simp] theorem State.storeByte_retry (s : State) (v : U8) : (s.storeByte v).retry = s.retry := rfl
@[simp] theorem State.storeByte_pinMode (s : State) (v : U8) : (s.storeByte v).pinMode = s.pinMode := rfl
@[simp] theorem State.storeByte_pinLevel (s : State) (v : U8) : (s.storeByte v).pinLevel = s.pinLevel := rfl
@[simp] theorem State.storeByte_busy (s : State) (v : U8) : (s.storeByte v).busy = s.busy := rfl
@[simp] theorem State.storeByte_done (s : State) (v : U8) : (s.storeByte v).done = s.done := rfl
@[simp] theorem State.storeByte_err (s : State) (v : U8) : (s.storeByte v).err = s.err := rfl
@[simp] theorem State.storeByte_params (s : State) (v : U8) : (s.storeByte v).params = s.params := rfl
@[simp] theorem State.storeByte_env (s : State) (v : U8) : (s.storeByte v).env = s.env := rfl
@[simp] theorem State.storeByte_task (s : State) (v : U8) : (s.storeByte v).task = s.task := rfl
@[simp] theorem State.storeByte_ret (s : State) (v : U8) : (s.storeByte v).ret = s.ret := rfl

/-! ## `State.nextByte` -/

@[simp] theorem State.nextByte_phase (s : State) : (s.nextByte).phase = s.phase := rfl
@[simp] theorem State.nextByte_byteIdx (s : State) : (s.nextByte).byteIdx = nextByteIdx s.byteIdx := rfl
@[simp] theorem State.nextByte_bitIdx (s : State) : (s.nextByte).bitIdx = s.bitIdx := rfl
@[simp] theorem State.nextByte_acc (s : State) : (s.nextByte).acc = s.acc := rfl
@[simp] theorem State.nextByte_frame (s : State) : (s.nextByte).frame = s.frame := rfl
@[simp] theorem State.nextByte_reading (s : State) : (s.nextByte).reading = s.reading := rfl
@[simp] theorem State.nextByte_timer (s : State) : (s.nextByte).timer = s.timer := rfl
@[simp] theorem State.nextByte_retry (s : State) : (s.nextByte).retry = s.retry := rfl
@[simp] theorem State.nextByte_pinMode (s : State) : (s.nextByte).pinMode = s.pinMode := rfl
@[simp] theorem State.nextByte_pinLevel (s : State) : (s.nextByte).pinLevel = s.pinLevel := rfl
@[simp] theorem State.nextByte_busy (s : State) : (s.nextByte).busy = s.busy := rfl
@[simp] theorem State.nextByte_done (s : State) : (s.nextByte).done = s.done := rfl
@[simp] theorem State.nextByte_err (s : State) : (s.nextByte).err = s.err := rfl
@[simp] theorem State.nextByte_params (s : State) : (s.nextByte).params = s.params := rfl
@[simp] theorem State.nextByte_env (s : State) : (s.nextByte).env = s.env := rfl
@[simp] theorem State.nextByte_task (s : State) : (s.nextByte).task = s.task := rfl
@[simp] theorem State.nextByte_ret (s : State) : (s.nextByte).ret = s.ret := rfl

/-! ## `State.beginTick` -/

@[simp] theorem State.beginTick_timer (s : State) :
    s.beginTick.timer = if (delayOperand s.params s.phase).isSome then timerDown s.timer else s.timer := rfl
@[simp] theorem State.beginTick_phase (s : State) : (s.beginTick).phase = s.phase := rfl
@[simp] theorem State.beginTick_byteIdx (s : State) : (s.beginTick).byteIdx = s.byteIdx := rfl
@[simp] theorem State.beginTick_bitIdx (s : State) : (s.beginTick).bitIdx = s.bitIdx := rfl
@[simp] theorem State.beginTick_acc (s : State) : (s.beginTick).acc = s.acc := rfl
@[simp] theorem State.beginTick_frame (s : State) : (s.beginTick).frame = s.frame := rfl
@[simp] theorem State.beginTick_reading (s : State) : (s.beginTick).reading = s.reading := rfl
@[simp] theorem State.beginTick_retry (s : State) : (s.beginTick).retry = s.retry := rfl
@[simp] theorem State.beginTick_pinMode (s : State) : (s.beginTick).pinMode = s.pinMode := rfl
@[simp] theorem State.beginTick_pinLevel (s : State) : (s.beginTick).pinLevel = s.pinLevel := rfl
@[simp] theorem State.beginTick_busy (s : State) : (s.beginTick).busy = s.busy := rfl
@[simp] theorem State.beginTick_done (s : State) : (s.beginTick).done = s.done := rfl
@[simp] theorem State.beginTick_err (s : State) : (s.beginTick).err = s.err := rfl
@[simp] theorem State.beginTick_params (s : State) : (s.beginTick).params = s.params := rfl
@[simp] theorem State.beginTick_env (s : State) : (s.beginTick).env = s.env := rfl
@[simp] theorem State.beginTick_task (s : State) : (s.beginTick).task = s.task := rfl
@[simp] theorem State.beginTick_ret (s : State) : (s.beginTick).ret = s.ret := rfl

/-! ## `State.taskAct` -/

@[simp] theorem State.taskAct_task (s : State) (raised : Bool) : (s.taskAct raised).task = s.taskAfter raised := rfl
@[simp] theorem State.taskAct_phase (s : State) (raised : Bool) : (s.taskAct raised).phase = s.phase := rfl
@[simp] theorem State.taskAct_byteIdx (s : State) (raised : Bool) : (s.taskAct raised).byteIdx = s.byteIdx := rfl
@[simp] theorem State.taskAct_bitIdx (s : State) (raised : Bool) : (s.taskAct raised).bitIdx = s.bitIdx := rfl
@[simp] theorem State.taskAct_acc (s : State) (raised : Bool) : (s.taskAct raised).acc = s.acc := rfl
@[simp] theorem State.taskAct_frame (s : State) (raised : Bool) : (s.taskAct raised).frame = s.frame := rfl
@[simp] theorem State.taskAct_reading (s : State) (raised : Bool) : (s.taskAct raised).reading = s.reading := rfl
@[simp] theorem State.taskAct_timer (s : State) (raised : Bool) : (s.taskAct raised).timer = s.timer := rfl
@[simp] theorem State.taskAct_retry (s : State) (raised : Bool) : (s.taskAct raised).retry = s.retry := rfl
@[simp] theorem State.taskAct_pinMode (s : State) (raised : Bool) : (s.taskAct raised).pinMode = s.pinMode := rfl
@[simp] theorem State.taskAct_pinLevel (s : State) (raised : Bool) : (s.taskAct raised).pinLevel = s.pinLevel := rfl
@[simp] theorem State.taskAct_busy (s : State) (raised : Bool) : (s.taskAct raised).busy = s.busy := rfl
@[simp] theorem State.taskAct_done (s : State) (raised : Bool) : (s.taskAct raised).done = s.done := rfl
@[simp] theorem State.taskAct_err (s : State) (raised : Bool) : (s.taskAct raised).err = s.err := rfl
@[simp] theorem State.taskAct_params (s : State) (raised : Bool) : (s.taskAct raised).params = s.params := rfl
@[simp] theorem State.taskAct_env (s : State) (raised : Bool) : (s.taskAct raised).env = s.env := rfl
@[simp] theorem State.taskAct_ret (s : State) (raised : Bool) : (s.taskAct raised).ret = s.ret := rfl

/-! ## `State.validateRegs` -/

@[simp] theorem State.validateRegs_phase (s : State) : (s.validateRegs).phase = s.phase := by unfold State.validateRegs; split <;> rfl
@[simp] theorem State.validateRegs_byteIdx (s : State) : (s.validateRegs).byteIdx = s.byteIdx := by unfold State.validateRegs; split <;> rfl
@[simp] theorem State.validateRegs_bitIdx (s : State) : (s.validateRegs).bitIdx = s.bitIdx := by unfold State.validateRegs; split <;> rfl
@[simp] theorem State.validateRegs_acc (s : State) : (s.validateRegs).acc = s.acc := by unfold State.validateRegs; split <;> rfl
@[simp] theorem State.validateRegs_frame (s : State) : (s.validateRegs).frame = s.frame := by unfold State.validateRegs; split <;> rfl
@[simp] theorem State.validateRegs_timer (s : State) : (s.validateRegs).timer = s.timer := by unfold State.validateRegs; split <;> rfl
@[simp] theorem State.validateRegs_retry (s : State) : (s.validateRegs).retry = s.retry := by unfold State.validateRegs; split <;> rfl
@[simp] theorem State.validateRegs_pinMode (s : State) : (s.validateRegs).pinMode = s.pinMode := by unfold State.validateRegs; split <;> rfl
@[simp] theorem State.validateRegs_pinLevel (s : State) : (s.validateRegs).pinLevel = s.pinLevel := by unfold State.validateRegs; split <;> rfl
@[simp] theorem State.validateRegs_busy (s : State) : (s.validateRegs).busy = s.busy := by unfold State.validateRegs; split <;> rfl
@[simp] theorem State.validateRegs_done (s : State) : (s.validateRegs).done = s.done := by unfold State.validateRegs; split <;> rfl
@[simp] theorem State.validateRegs_params (s : State) : (s.validateRegs).params = s.params := by unfold State.validateRegs; split <;> rfl
@[simp] theorem State.validateRegs_env (s : State) : (s.validateRegs).env = s.env := by unfold State.validateRegs; split <;> rfl
@[simp] theorem State.validateRegs_task (s : State) : (s.validateRegs).task = s.task := by unfold State.validateRegs; split <;> rfl
@[simp] theorem State.validateRegs_ret (s : State) : (s.validateRegs).ret = s.ret := by unfold State.validateRegs; split <;> rfl

/-! ## `State.resetBlock` -/

@[simp] theorem State.resetBlock_phase (s : State) : (s.resetBlock).phase = State.reset.phase := rfl
@[simp] theorem State.resetBlock_byteIdx (s : State) : (s.resetBlock).byteIdx = State.reset.byteIdx := rfl
@[simp] theorem State.resetBlock_bitIdx (s : State) : (s.resetBlock).bitIdx = State.reset.bitIdx := rfl
@[simp] theorem State.resetBlock_acc (s : State) : (s.resetBlock).acc = State.reset.acc := rfl
@[simp] theorem State.resetBlock_frame (s : State) : (s.resetBlock).frame = State.reset.frame := rfl
@[simp] theorem State.resetBlock_reading (s : State) : (s.resetBlock).reading = State.reset.reading := rfl
@[simp] theorem State.resetBlock_timer (s : State) : (s.resetBlock).timer = State.reset.timer := rfl
@[simp] theorem State.resetBlock_retry (s : State) : (s.resetBlock).retry = State.reset.retry := rfl
@[simp] theorem State.resetBlock_pinMode (s : State) : (s.resetBlock).pinMode = State.reset.pinMode := rfl
@[simp] theorem State.resetBlock_pinLevel (s : State) : (s.resetBlock).pinLevel = State.reset.pinLevel := rfl
@[simp] theorem State.resetBlock_busy (s : State) : (s.resetBlock).busy = State.reset.busy := rfl
@[simp] theorem State.resetBlock_done (s : State) : (s.resetBlock).done = State.reset.done := rfl
@[simp] theorem State.resetBlock_err (s : State) : (s.resetBlock).err = State.reset.err := rfl
@[simp] theorem State.resetBlock_params (s : State) : (s.resetBlock).params = s.params := rfl
@[simp] theorem State.resetBlock_env (s : State) : (s.resetBlock).env = { s.env with slack := 0 } := rfl
@[simp] theorem State.resetBlock_task (s : State) : (s.resetBlock).task = s.taskOnReset := rfl
@[simp] theorem State.resetBlock_ret (s : State) : (s.resetBlock).ret = s.ret := rfl

end Sys2Proof.Machine
end

