-- ==== Sys2Proof/Laws/Ops.lean ====
section
/-! SUPPORT. For each shared operation one lemma that says everything it can do, and the small facts about the environment
and the registers' helpers that the spec lemmas need. -/

namespace Sys2Proof.Machine

/-! ## Sequencing -/

@[simp] theorem andThen_next (s : State) (f : State → Result) : andThen (.next s) f = f s := rfl
@[simp] theorem andThen_fault (e : Fault) (f : State → Result) : andThen (.fault e) f = .fault e := rfl
@[simp] theorem andThen_refused (e : Refusal) (f : State → Result) : andThen (.refused e) f = .refused e := rfl

/-- A sequence that goes on went on in both halves. -/
theorem andThen_eq_next {r : Result} {f : State → Result} {t : State} (h : andThen r f = .next t) :
    ∃ s, r = .next s ∧ f s = .next t := by
  cases r with
  | next s => exact ⟨s, rfl, h⟩
  | fault e => cases h
  | refused e => cases h

theorem andThen_assoc (r : Result) (f g : State → Result) :
    andThen (andThen r f) g = andThen r fun s => andThen (f s) g := by
  cases r <;> rfl

@[simp] theorem thenOp_ok {α β : Type} (a : α) (s : State) (f : α → State → OpEnd β) : thenOp (.ok a s) f = f a s := rfl
@[simp] theorem thenOp_err {α β : Type} (e : ErrCode) (s : State) (f : α → State → OpEnd β) :
    thenOp (.err e s) f = .err e s := rfl
@[simp] theorem thenOp_refused {α β : Type} (e : Refusal) (f : α → State → OpEnd β) :
    thenOp (.refused e) f = .refused e := rfl

@[simp] theorem finishOp_ok {α : Type} (a : α) (s : State) (v : α → OpResult) :
    finishOp (.ok a s) v = .next { s with ret := v a } := rfl
@[simp] theorem finishOp_err {α : Type} (e : ErrCode) (s : State) (v : α → OpResult) :
    finishOp (.err e s) v = .next { s with err := e, ret := .error e } := rfl
@[simp] theorem finishOp_refused {α : Type} (e : Refusal) (v : α → OpResult) :
    finishOp (.refused e) v = .refused e := rfl

/-! ## Time and the environment -/

@[simp] theorem State.elapse_zero (s : State) : s.elapse 0 = s := rfl

@[simp] theorem State.elapse_elapse (s : State) (m n : Nat) : (s.elapse m).elapse n = s.elapse (m + n) := by
  simp [State.elapse, Nat.add_assoc]

@[simp] theorem State.sensorAt_elapse (s : State) (m k : Nat) : (s.elapse m).sensorAt k = s.sensorAt (m + k) := by
  simp [State.sensorAt]

@[simp] theorem State.rstAt_elapse (s : State) (m k : Nat) : (s.elapse m).rstAt k = s.rstAt (m + k) := by
  simp [State.rstAt]

theorem State.sensorAt_zero (s : State) : s.sensorAt 0 = s.inputsNow.line := rfl

/-- The ports of the current tick depend on the environment's tick and queue alone. -/
theorem State.inputsNow_congr {s u : State} (ht : s.env.tick = u.env.tick) (hi : s.env.inputs = u.env.inputs) :
    s.inputsNow = u.inputsNow := by
  simp [State.inputsNow, ht, hi]

theorem State.sensorAt_congr {s u : State} (ht : s.env.tick = u.env.tick) (hi : s.env.inputs = u.env.inputs) (k : Nat) :
    s.sensorAt k = u.sensorAt k := by
  simp [State.sensorAt, State.inputsNow, ht, hi]

/-- The slack drawn never exceeds `DELAY_SLACK_MAX` (R91). -/
theorem State.slackDrawn_le (s : State) : s.slackDrawn ≤ s.params.delaySlackMax := by
  unfold State.slackDrawn
  split
  · exact Nat.zero_le _
  · exact Nat.le_of_lt_succ (Nat.mod_lt _ (Nat.succ_pos _))

theorem State.slackDrawn_exact {s : State} (h : s.params.delaySlackMax = 0) : s.slackDrawn = 0 := by
  simp [State.slackDrawn, h]

theorem State.drawsAfter_exact {s : State} (h : s.params.delaySlackMax = 0) : s.drawsAfter = s.env.draws := by
  simp [State.drawsAfter, h]

/-- On exact delays drawing a slack changes nothing. -/
theorem State.drawSlack_exact {s : State} (h : s.params.delaySlackMax = 0) (h0 : s.env.slack = 0) : s.drawSlack = s := by
  simp only [State.drawSlack, State.slackDrawn_exact h, State.drawsAfter_exact h, ← h0]

/-- On exact delays `n` ticks pass, no more. -/
theorem State.passTicks_exact {s : State} (h : s.params.delaySlackMax = 0) (h0 : s.env.slack = 0) (n : Nat) :
    s.passTicks n = s.elapse n := by
  simp [State.passTicks, State.elapse, State.slackDrawn_exact h, State.drawsAfter_exact h, h0]

/-- Whole ticks passed: the tick number grows and as many ports are gone. -/
theorem State.passTicks_tick (s : State) (n : Nat) :
    (s.passTicks n).env.tick = s.env.tick + (n + s.slackDrawn) ∧
      (s.passTicks n).env.inputs = s.env.inputs.drop (n + s.slackDrawn) := ⟨rfl, rfl⟩

/-! ## The line -/

theorem State.pinMode_cases (s : State) : s.pinMode = .output ∨ s.pinMode = .input := by
  cases s.pinMode
  · exact .inr rfl
  · exact .inl rfl

@[simp] theorem State.line_input {s : State} (h : s.pinMode = .input) : s.line = s.inputsNow.line := by simp [State.line, h]
@[simp] theorem State.line_output {s : State} (h : s.pinMode = .output) : s.line = s.pinLevel := by simp [State.line, h]

@[simp] theorem setLevel_output {s : State} (h : s.pinMode = .output) (v : Level) :
    setLevel v s = .next { s with pinLevel := v } := by simp [setLevel, h]
@[simp] theorem setLevel_input {s : State} (h : s.pinMode = .input) (v : Level) :
    setLevel v s = .refused .setLevelInInputMode := by simp [setLevel, h]

/-- If SET_LEVEL goes on, the pin was in Output mode and only `pin_level` changed (R94). -/
theorem setLevel_eq_next {s t : State} {v : Level} (h : setLevel v s = .next t) :
    s.pinMode = .output ∧ t = { s with pinLevel := v } := by
  rcases s.pinMode_cases with hm | hm
  · rw [setLevel_output hm] at h; exact ⟨hm, (Host.Outcome.next.inj h).symm⟩
  · rw [setLevel_input hm] at h; cases h

@[simp] theorem readLevel_input {s : State} (h : s.pinMode = .input) : readLevel s = .ok s.inputsNow.line s := by
  simp [readLevel, h]
@[simp] theorem readLevel_output {s : State} (h : s.pinMode = .output) : readLevel s = .refused .readLevelInOutputMode := by
  simp [readLevel, h]

/-! ## Timed phase actions -/

/-- What a delay phase's action can do: block with nothing changed, block using a tick of slack, or end. -/
theorem delayAction_cases {onEnd : State → Result} {s t : State} (h : delayAction onEnd s = .next t) :
    (s.timer ≠ 0 ∧ t = s) ∨
    (s.timer = 0 ∧ s.env.slack ≠ 0 ∧ t = { s with env := { s.env with slack := s.env.slack - 1 } }) ∨
    (s.timer = 0 ∧ s.env.slack = 0 ∧ onEnd s = .next t) := by
  unfold delayAction at h
  split at h
  · next h1 => exact .inl ⟨h1, (Host.Outcome.next.inj h).symm⟩
  · next h1 =>
    have h1 : s.timer = 0 := Decidable.not_not.mp h1
    split at h
    · next h2 => exact .inr (.inl ⟨h1, h2, (Host.Outcome.next.inj h).symm⟩)
    · next h2 => exact .inr (.inr ⟨h1, Decidable.not_not.mp h2, h⟩)

theorem delayAction_end {onEnd : State → Result} {s : State} (ht : s.timer = 0) (hs : s.env.slack = 0) :
    delayAction onEnd s = onEnd s := by
  simp [delayAction, ht, hs]

/-- What a wait phase's action does: it always goes on, in one of four ways. -/
theorem waitAction_cases (g : Level) (m : BitVec 8) (onMatch onTimeout : State → State) (s : State) :
    (s.env.slack ≠ 0 ∧
      waitAction g m onMatch onTimeout s = .next { s with env := { s.env with slack := s.env.slack - 1 } }) ∨
    (s.env.slack = 0 ∧ s.retry = m ∧ waitAction g m onMatch onTimeout s = .next (onTimeout s)) ∨
    (s.env.slack = 0 ∧ s.retry ≠ m ∧ s.line = g ∧
      waitAction g m onMatch onTimeout s = .next (onMatch { s with retry := s.retry + 1 })) ∨
    (s.env.slack = 0 ∧ s.retry ≠ m ∧ s.line ≠ g ∧
      waitAction g m onMatch onTimeout s = .next ({ s with retry := s.retry + 1 } : State).drawSlack) := by
  by_cases h1 : s.env.slack = 0
  · by_cases h2 : s.retry = m
    · exact .inr (.inl ⟨h1, h2, by simp [waitAction, h1, h2]⟩)
    · by_cases h3 : s.line = g
      · exact .inr (.inr (.inl ⟨h1, h2, h3, by simp [waitAction, h1, h2, h3]⟩))
      · exact .inr (.inr (.inr ⟨h1, h2, h3, by simp [waitAction, h1, h2, h3]⟩))
  · exact .inl ⟨h1, by simp [waitAction, h1]⟩

/-- Begin in Output mode: every register it writes, and nothing else (R131). -/
theorem beginTransaction_output {s : State} (h : s.pinMode = .output) :
    beginTransaction s =
      .next (({ s.clearForTransaction with pinLevel := .low } : State).enterDelay Phase.reqLow s.params.reqLowUs) := by
  simp [beginTransaction, setLevel_output (s := s.clearForTransaction) h]

theorem beginTransaction_input {s : State} (h : s.pinMode = .input) :
    beginTransaction s = .refused .setLevelInInputMode := by
  simp [beginTransaction, setLevel_input (s := s.clearForTransaction) h]

/-! ## The big-step wait -/

@[simp] theorem waitLoop_zero (g : Level) (s : State) : waitLoop g 0 s = .err .timeout s := rfl

/-- One poll of the big-step wait (R100). -/
theorem waitLoop_succ {g : Level} {m : Nat} {s : State} (h : s.pinMode = .input) :
    waitLoop g (m + 1) s =
      if s.inputsNow.line = g then .ok () { s with retry := s.retry + 1 }
      else waitLoop g m (({ s with retry := s.retry + 1 } : State).passTicks 1) := by
  simp [waitLoop, readLevel_input h]

/-- Whatever a big-step wait ends with, it changed nothing but `retry` and the environment (R100: "Nothing else"). -/
theorem waitLoop_frame (g : Level) (m : Nat) (s : State) :
    (∃ t, (waitLoop g m s = .ok () t ∨ waitLoop g m s = .err .timeout t) ∧
      t = { s with retry := t.retry, env := t.env }) ∨ waitLoop g m s = .refused .readLevelInOutputMode := by
  induction m generalizing s with
  | zero => exact .inl ⟨s, .inr rfl, rfl⟩
  | succ m ih =>
    rcases s.pinMode_cases with hm | hm
    · exact .inr (by simp [waitLoop, readLevel_output hm])
    · rw [waitLoop_succ hm]
      split
      · exact .inl ⟨_, .inl rfl, rfl⟩
      · rcases ih (({ s with retry := s.retry + 1 } : State).passTicks 1) with ⟨t, h, ht⟩ | h
        · refine .inl ⟨t, h, ?_⟩
          rw [ht]
          rfl
        · exact .inr h

/-! ## Registers' helpers -/

/-- A byte index is one of the five. -/
theorem byteIdx_cases (j : Fin 5) : j = 0 ∨ j = 1 ∨ j = 2 ∨ j = 3 ∨ j = 4 := by
  revert j
  decide

@[simp] theorem frameGet_frameSet_same (f : Frame) (j : Fin 5) (v : U8) : frameGet (frameSet f j v) j = v := by
  rcases byteIdx_cases j with rfl | rfl | rfl | rfl | rfl <;> rfl

theorem frameGet_frameSet_other (f : Frame) (i j : Fin 5) (v : U8) (h : i ≠ j) :
    frameGet (frameSet f j v) i = frameGet f i := by
  rcases byteIdx_cases i with rfl | rfl | rfl | rfl | rfl <;>
    rcases byteIdx_cases j with rfl | rfl | rfl | rfl | rfl <;> first | rfl | exact absurd rfl h

theorem nextByteIdx_val (j : Fin 5) : (nextByteIdx j).val = min (j.val + 1) 4 := by
  revert j
  decide

@[simp] theorem Level.ofCode_code (l : Level) : Level.ofCode l.code = l := by cases l <;> rfl

/-- The validator's two answers (R151). -/
theorem validateFrame_cases (f : Frame) :
    (frameValid f = true ∧ validateFrame f = .ok (framePayload f)) ∨
      (frameValid f = false ∧ validateFrame f = .error .checksumMismatch) := by
  cases h : frameValid f
  · exact .inr ⟨rfl, by simp [validateFrame, h]⟩
  · exact .inl ⟨rfl, by simp [validateFrame, h]⟩

/-- What VALIDATE leaves in the registers (R140). -/
theorem State.validateRegs_eq (s : State) :
    s.validateRegs =
      if frameValid s.frame then { s with reading := framePayload s.frame } else { s with err := .checksumMismatch } := by
  rcases validateFrame_cases s.frame with ⟨h, hv⟩ | ⟨h, hv⟩ <;> simp [State.validateRegs, hv, h]

end Sys2Proof.Machine
end

