-- ==== Sys2Proof/Laws/PerInstr.lean ====
section
/-! SUPPORT. Statements made instruction by instruction. Family `Encoding`: the encoder keeps to the opcode table. -/

namespace Sys2Proof.Laws.Encoding

/-- An instruction has a code word exactly when its row of opcode_table.json has a pattern (R86), and the word then fits
that pattern under its mask. -/
def Statement (i : Instr) : Prop :=
  match encode i, tableRow i with
  | some w, some r => r.fits w = true
  | none, none => True
  | some _, none => False
  | none, some _ => False

theorem idle : Statement .idle := rfl
theorem reqLow : Statement .reqLow := rfl
theorem relHigh : Statement .relHigh := rfl
theorem ackWaitLow : Statement .ackWaitLow := rfl
theorem ackWaitHigh : Statement .ackWaitHigh := rfl
theorem bitWaitLow : Statement .bitWaitLow := rfl
theorem bitWaitHigh : Statement .bitWaitHigh := rfl
theorem bitDelay : Statement .bitDelay := rfl
theorem endWaitLow : Statement .endWaitLow := rfl
theorem validate : Statement .validate := rfl
theorem restore : Statement .restore := rfl
theorem reserved1011 : Statement .reserved1011 := rfl
theorem reserved11xx (low : BitVec 2) : Statement (.reserved11xx low) := by
  have h : ∀ x : BitVec 2, TableRow.fits ⟨false, 0xC, 0xC⟩ (.phase (0b11#2 ++ x)) = true := by decide
  exact h low
theorem start : Statement .start := rfl
theorem delayUs (n : BitVec 15) : Statement (.delayUs n) := trivial
theorem configureOutput : Statement .configureOutput := trivial
theorem configureInput : Statement .configureInput := trivial
theorem setLevel (v : Level) : Statement (.setLevel v) := trivial
theorem readLevel : Statement .readLevel := trivial
theorem waitForLevel (target : Level) (maxRetries : BitVec 8) : Statement (.waitForLevel target maxRetries) := trivial
theorem readBit : Statement .readBit := trivial
theorem readByte : Statement .readByte := trivial
theorem read : Statement .read := trivial
theorem validateFrame (f : Frame) : Statement (.validateFrame f) := trivial
theorem humidity (r : Reading) : Statement (.humidity r) := trivial
theorem temperature (r : Reading) : Statement (.temperature r) := trivial
theorem periodicTask (intervalMs : Nat) : Statement (.periodicTask intervalMs) := trivial

end Sys2Proof.Laws.Encoding

namespace Sys2Proof

/-- No code word of `phase` fits two rows: two phase rows whose patterns one code fits have the same pattern (R76, R80). -/
theorem phaseRows_disjoint (code : BitVec 4) (i j : Instr) (r q : TableRow) (hi : tableRow i = some r)
    (hj : tableRow j = some q) (hr : r.fits (.phase code) = true) (hq : q.fits (.phase code) = true) : r = q := by
  have key : ∀ (c : BitVec 4) (i : Instr) (r : TableRow), tableRow i = some r → r.fits (.phase c) = true →
      tableRow (decodePhase c) = some r := by
    intro c i r h
    revert c
    cases i <;> first | (cases h; decide) | cases h
  exact Option.some.inj ((key code i r hi hr).symm.trans (key code j q hj hq))

end Sys2Proof
end

