-- ==== Sys2Proof/Laws/Tick.lean ====
section
/-! SUPPORT. What the parts of a tick can do: the fetch, the loop, the phases' actions one by one, the host's part. -/

namespace Sys2Proof.Machine

/-! ## Fetch and loop -/

/-- The fetched code word always selects an operation: START, or the phase of the code. -/
theorem decode_fetchWord (s : State) :
    decode s.fetchWord = .ok (if s.phase = Phase.idle ∧ s.startNow = true then .start else decodePhase s.phase) := by
  unfold State.fetchWord
  split <;> rfl

/-- One turn of the zero-time loop (R130). -/
theorem runActions_succ (n : Nat) (s : State) :
    runActions (n + 1) s =
      andThen (exec (if s.phase = Phase.idle ∧ s.startNow = true then .start else decodePhase s.phase) s) fun s1 =>
        if s1.phase = s.phase ∨ s1.phase = Phase.idle then .next s1 else runActions n s1 := by
  rw [runActions, decode_fetchWord]

theorem tick_reset {s : State} (h : s.inputsNow.rst = true) : step s = .next s.resetBlock.endTick := by
  simp [step, tick, h]

theorem tick_noReset {s : State} (h : s.inputsNow.rst = false) :
    step s = andThen (tickBlock s) fun t => .next t.endTick := by
  simp [step, tick, h]

/-- A run of any machine whose first step goes on. -/
theorem run_next (M : Host.Core) (k : Nat) (s u : M.State) (h : M.step s = .next u) : M.run (k + 1) s = M.run k u := by
  simp only [Host.Core.run, h]

theorem run_fault (M : Host.Core) (k : Nat) (s : M.State) (e : M.Fault) (h : M.step s = .fault e) :
    M.run (k + 1) s = .fault e := by
  simp only [Host.Core.run, h]

theorem run_refused (M : Host.Core) (k : Nat) (s : M.State) (e : M.Refusal) (h : M.step s = .refused e) :
    M.run (k + 1) s = .refused e := by
  simp only [Host.Core.run, h]

/-- A run is its first tick and the rest. -/
theorem runTicks_succ (n : Nat) (s : State) : runTicks (n + 1) s = andThen (step s) (runTicks n) := by
  cases hs : step s with
  | next u => exact run_next Sys2Proof.core n s u hs
  | fault e => exact run_fault Sys2Proof.core n s e hs
  | refused e => exact run_refused Sys2Proof.core n s e hs

/-! ## The phases' actions, for inversion -/

/-- What the IDLE action can do: nothing, or Begin (R131). -/
theorem execIdle_cases {s t : State} (h : execIdle s = .next t) :
    (s.startNow = false ∧ t = s) ∨ (s.startNow = true ∧ beginTransaction s = .next t) := by
  unfold execIdle at h
  split at h
  · next hs => exact .inr ⟨hs, h⟩
  · next hs => exact .inl ⟨by simpa using hs, (Host.Outcome.next.inj h).symm⟩

/-- What Begin can do, if it goes on (R131). -/
theorem beginTransaction_eq_next {s t : State} (h : beginTransaction s = .next t) :
    s.pinMode = .output ∧
      t = ({ s.clearForTransaction with pinLevel := .low } : State).enterDelay Phase.reqLow s.params.reqLowUs := by
  rcases s.pinMode_cases with hm | hm
  · rw [beginTransaction_output hm] at h
    exact ⟨hm, (Host.Outcome.next.inj h).symm⟩
  · rw [beginTransaction_input hm] at h
    cases h

/-- What REQ_LOW can do at the end of its delay (R132). -/
theorem reqLowEnd_eq_next {s t : State}
    (h : (andThen (setLevel .high s) fun v => .next (v.enterDelay Phase.relHigh v.params.relHighUs)) = .next t) :
    s.pinMode = .output ∧ t = ({ s with pinLevel := .high } : State).enterDelay Phase.relHigh s.params.relHighUs := by
  obtain ⟨u, hu, ht⟩ := andThen_eq_next h
  obtain ⟨hm, rfl⟩ := setLevel_eq_next hu
  exact ⟨hm, (Host.Outcome.next.inj ht).symm⟩

/-- The three ends of BIT_DELAY (R138). -/
theorem State.sampleBit_cases (s : State) :
    (s.bitIdx ≠ 7 ∧ s.sampleBit = (s.keepBit s.line.code).enterWait Phase.bitWaitLow) ∨
    (s.bitIdx = 7 ∧ s.byteIdx ≠ 4 ∧
      s.sampleBit = (s.storeByte (shiftIn s.acc s.line.code)).nextByte.enterWait Phase.bitWaitLow) ∨
    (s.bitIdx = 7 ∧ s.byteIdx = 4 ∧ s.sampleBit = (s.storeByte (shiftIn s.acc s.line.code)).enterWait Phase.endWaitLow) := by
  by_cases h1 : s.bitIdx = 7
  · by_cases h2 : s.byteIdx = 4
    · exact .inr (.inr ⟨h1, h2, by simp [State.sampleBit, h1, h2]⟩)
    · exact .inr (.inl ⟨h1, h2, by simp [State.sampleBit, h1, h2]⟩)
  · exact .inl ⟨h1, by rw [State.sampleBit, if_pos h1]⟩

/-! ## The host's part -/

/-- What the task does after the block's step: it logs and suspends, or only takes its place in the loop (R160). -/
theorem State.taskAfter_cases (s : State) (raised : Bool) :
    (s.taskModeAfterStart raised = .waiting ∧ s.done = true ∧
      s.taskAfter raised =
        { mode := .suspended s.wakeTick, intervalMs := s.task.intervalMs, log := s.task.log ++ [s.logEntry] }) ∨
    (¬(s.taskModeAfterStart raised = .waiting ∧ s.done = true) ∧
      s.taskAfter raised = { mode := s.taskModeAfterStart raised, intervalMs := s.task.intervalMs, log := s.task.log }) := by
  by_cases h : s.taskModeAfterStart raised = .waiting ∧ s.done = true
  · exact .inl ⟨h.1, h.2, by simp [State.taskAfter, h]⟩
  · exact .inr ⟨h, by simp only [State.taskAfter, if_neg h]⟩

/-- A task raises `start` only when the block is idle and not busy (R165). -/
theorem State.taskRaises_idle {s : State} (h : s.taskRaises = true) : s.phase = Phase.idle ∧ s.busy = false := by
  unfold State.taskRaises at h
  split at h <;> simp_all

theorem State.startNow_notSpawned {s : State} (h : s.task.mode = .notSpawned) : s.startNow = s.inputsNow.start := by
  simp [State.startNow, h]

/-- Where no task owns the block nothing of the host changes in a tick. -/
theorem State.taskAct_notSpawned {s : State} (h : s.task.mode = .notSpawned) : s.taskAct false = s := by
  have ht : s.taskAfter false = s.task := by
    rcases s.taskAfter_cases false with ⟨hw, -, -⟩ | ⟨-, he⟩
    · exact absurd hw (by simp [State.taskModeAfterStart, h])
    · exact he
  rw [State.taskAct, ht]

end Sys2Proof.Machine
end

