-- ==== Sys2Proof/WellFormed.lean ====
section
/-! DEFINITION. Which instruction terms are well formed. The operand types already bound every operand of R83; the one
check left is the host's interval (45_periodic_task.md R160), an operand by the model's choice (log 28). -/

namespace Sys2Proof

/-- `INTERVAL_MS >= MIN_INTERVAL_MS` (R160); every other operand is in range by its type. -/
def WellFormed : Instr → Bool
  | .periodicTask intervalMs => decide (Config.minIntervalMs ≤ intervalMs)
  | .idle | .reqLow | .relHigh | .ackWaitLow | .ackWaitHigh | .bitWaitLow | .bitWaitHigh | .bitDelay | .endWaitLow
  | .validate | .restore | .reserved1011 | .reserved11xx _ | .start | .delayUs _ | .configureOutput | .configureInput
  | .setLevel _ | .readLevel | .waitForLevel _ _ | .readBit | .readByte | .read | .validateFrame _ | .humidity _
  | .temperature _ => true

end Sys2Proof
end

