-- ==== Sys2Proof/Tests/Slice0.lean ====
section
/-! SUPPORT. Tests with expected values from 95_test_vectors.md, and for every obligation with hypotheses a witness that
they can be met together. "V-..." and "P..." name the vector or the program of that file. -/

namespace Sys2Proof.Tests

open Sys2Proof Sys2Proof.Machine

/-! ## Helpers -/

/-- The ports of a tick with nothing but a level on the line. -/
def port (l : Level) : PortInputs := ⟨false, false, l⟩

/-- The ports of ticks at which the line has the levels of a waveform. -/
def ports (w : Waveform) : List PortInputs := (expand w).map port

/-- Between ticks, in a phase, with the pin in a mode, the coming levels as given. -/
def standing (code : BitVec 4) (mode : PinMode) (w : Waveform) : State :=
  { State.reset with phase := code, pinMode := mode, busy := code ≠ Phase.idle, env := ⟨0, ports w, 0, 0⟩ }

/-- The same, with the line released. -/
def listening (w : Waveform) : State := { State.reset with pinMode := .input, env := ⟨0, ports w, 0, 0⟩ }

/-- A value read off the next state, if there is one. -/
def ofNext {α : Type} (r : Result) (f : State → α) : Option α :=
  match r with
  | .next t => some (f t)
  | .fault _ | .refused _ => none

/-- The refusal, if it is one. -/
def refusal (r : Result) : Option Refusal :=
  match r with
  | .refused e => some e
  | .next _ | .fault _ => none

/-- The fault, if it is one. -/
def faultOf (r : Result) : Option Fault :=
  match r with
  | .fault e => some e
  | .next _ | .refused _ => none

/-! ## Well-formedness -/

theorem test_wellFormed_refuses_interval_1999 : WellFormed (.periodicTask 1999) = false := by decide

theorem test_wellFormed_accepts_interval_2000 : WellFormed (.periodicTask 2000) = true := by decide

/-! ## Encoding: words written out from 30_encoding.md R76, R79 -/

theorem test_decode_phase_words :
    [0b0000, 0b0001, 0b0010, 0b0011, 0b0100, 0b0101, 0b0110, 0b0111, 0b1000, 0b1001, 0b1010].map (decodeTableWord 4) =
      [some .idle, some .reqLow, some .relHigh, some .ackWaitLow, some .ackWaitHigh, some .bitWaitLow, some .bitWaitHigh,
       some .bitDelay, some .endWaitLow, some .validate, some .restore] := by decide

theorem test_decode_reserved_words :
    [0b1011, 0b1100, 0b1101, 0b1110, 0b1111].map (decodeTableWord 4) =
      [some .reserved1011, some (.reserved11xx 0b00), some (.reserved11xx 0b01), some (.reserved11xx 0b10),
       some (.reserved11xx 0b11)] := by decide

theorem test_decode_start_command : decodeTableWord 1 0b1 = some .start := by decide

theorem test_decode_no_command : decodeTableWord 1 0b0 = none ∧ decode (.command 0) = .error .noCommand := ⟨by decide, rfl⟩

theorem test_encode_primitives_have_no_word :
    encode (.delayUs 40) = none ∧ encode (.setLevel .low) = none ∧ encode .readBit = none ∧
      encode (.periodicTask 2000) = none := by decide

/-! ## Phases: ticks of program P1 and others, from the snapshot before -/

-- P1, tick 0 (V-S5 shows the same of a later start)
theorem test_start_begins :
    ofNext (step { State.reset with retry := 31, done := true, reading := ⟨0x32, 0, 0x15, 0⟩, env := ⟨0, [⟨false, true, .high⟩], 0, 0⟩ })
        (fun t => (t.phase, t.timer, t.padWord, t.done, t.reading, t.retry)) =
      some (Phase.reqLow, 20000, 0b10, false, ⟨0, 0, 0, 0⟩, 31) := by decide

-- V-S3: an extra start during REQ_LOW
theorem test_start_ignored_while_busy :
    ofNext (exec .start (standing Phase.reqLow .output [])) (fun t => decide (t = standing Phase.reqLow .output [])) =
      some true := by decide

-- V-S1
theorem test_idle_rests :
    ofNext (step (standing Phase.idle .output [(.high, 1)])) (fun t => (t.phase, t.lineOe, t.lineOut, t.busyPort, t.donePort, t.errPort)) =
      some (Phase.idle, 1, 1, 0, 0, 0) := by decide

-- P1, ticks 1 and 20000
theorem test_reqLow_blocks :
    ofNext (step { standing Phase.reqLow .output [(.high, 1)] with pinLevel := .low, timer := 20000 })
      (fun t => (t.phase, t.timer, t.padWord)) = some (Phase.reqLow, 19999, 0b10) := by decide

theorem test_reqLow_ends :
    ofNext (step { standing Phase.reqLow .output [(.high, 1)] with pinLevel := .low, timer := 1 })
      (fun t => (t.phase, t.timer, t.padWord)) = some (Phase.relHigh, 30, 0b11) := by decide

-- P1, tick 20030: release and first poll
theorem test_relHigh_releases :
    ofNext (step { standing Phase.relHigh .output [(.high, 1)] with timer := 1 })
      (fun t => (t.phase, t.timer, t.retry, t.padWord)) = some (Phase.ackWaitLow, 0, 1, 0b01) := by decide

-- P1, tick 20050; P3, tick 20130
theorem test_ackWaitLow_matches :
    ofNext (step { standing Phase.ackWaitLow .input [(.low, 1)] with retry := 20 }) (fun t => (t.phase, t.retry)) =
      some (Phase.ackWaitHigh, 1) := by decide

theorem test_ackWaitLow_times_out :
    ofNext (step { standing Phase.ackWaitLow .input [(.low, 1)] with retry := 100 })
        (fun t => (t.phase, t.err, t.retry, t.padWord, t.busy, t.done)) =
      some (Phase.idle, .timeout, 100, 0b11, false, true) := by decide

-- P1, tick 20130
theorem test_ackWaitHigh_matches :
    ofNext (step { standing Phase.ackWaitHigh .input [(.high, 1)] with retry := 80 }) (fun t => (t.phase, t.retry)) =
      some (Phase.bitWaitLow, 1) := by decide

-- P1, tick 20210
theorem test_bitWaitLow_matches :
    ofNext (step { standing Phase.bitWaitLow .input [(.low, 1)] with retry := 80 }) (fun t => (t.phase, t.retry)) =
      some (Phase.bitWaitHigh, 1) := by decide

-- P1, tick 20260
theorem test_bitWaitHigh_matches :
    ofNext (step { standing Phase.bitWaitHigh .input [(.high, 1)] with retry := 50 }) (fun t => (t.phase, t.timer, t.retry)) =
      some (Phase.bitDelay, 40, 51) := by decide

-- P1, tick 20300: a 0, and the wait for low matches at once
theorem test_bitDelay_samples_zero :
    ofNext (step { standing Phase.bitDelay .input [(.low, 1)] with timer := 1, retry := 51 })
      (fun t => (t.phase, t.retry, t.bitIdx, t.acc)) = some (Phase.bitWaitHigh, 1, 1, 0x00) := by decide

-- P1, tick 23690: the fortieth bit is a 1
theorem test_bitDelay_fortieth_bit :
    ofNext (step { standing Phase.bitDelay .input [(.high, 1)] with
        timer := 1, retry := 51, byteIdx := 4, bitIdx := 7, acc := 0x23, frame := ⟨0x32, 0, 0x15, 0, 0⟩ })
      (fun t => (t.phase, t.retry, t.byteIdx, t.bitIdx, t.acc, t.frame)) =
      some (Phase.endWaitLow, 1, 4, 0, 0x00, ⟨0x32, 0x00, 0x15, 0x00, 0x47⟩) := by decide

-- P1, tick 23720
theorem test_endWaitLow_publishes :
    ofNext (step { standing Phase.endWaitLow .input [(.low, 1)] with
        retry := 30, byteIdx := 4, frame := ⟨0x32, 0x00, 0x15, 0x00, 0x47⟩ })
      (fun t => (t.phase, t.retry, t.err, t.reading, t.padWord, t.done)) =
      some (Phase.idle, 31, .none, ⟨0x32, 0x00, 0x15, 0x00⟩, 0b11, true) := by decide

-- P5 (b), tick 23446
theorem test_endWaitLow_soft_timeout :
    ofNext (step { standing Phase.endWaitLow .input [(.high, 1)] with
        retry := 100, byteIdx := 4, frame := ⟨0x00, 0x00, 0x00, 0x01, 0x01⟩
        params := { Params.defaults with frameEndStrict := false } })
      (fun t => (t.phase, t.err, t.reading)) = some (Phase.idle, .none, ⟨0x00, 0x00, 0x00, 0x01⟩) := by decide

-- V-C1, V-C2 through the phase
theorem test_validate_good :
    ofNext (exec .validate { State.reset with frame := ⟨0x32, 0x00, 0x15, 0x00, 0x47⟩ }) (fun t => (t.phase, t.err, t.reading)) =
      some (Phase.restore, .none, ⟨0x32, 0x00, 0x15, 0x00⟩) := by decide

theorem test_validate_bad :
    ofNext (exec .validate { State.reset with frame := ⟨0x32, 0x00, 0x15, 0x00, 0x48⟩ }) (fun t => (t.phase, t.err, t.reading)) =
      some (Phase.restore, .checksumMismatch, ⟨0, 0, 0, 0⟩) := by decide

-- R141
theorem test_restore :
    ofNext (exec .restore { standing Phase.restore .input [] with retry := 31, acc := 0x24 })
      (fun t => (t.phase, t.padWord, t.busy, t.done, t.retry, t.acc)) = some (Phase.idle, 0b11, false, true, 31, 0x24) := by decide

-- R143
theorem test_reserved1011_faults :
    faultOf (step (standing 0b1011 .input [(.high, 1)])) = some (.reservedPhase 0b1011) := by decide

theorem test_reserved11xx_faults :
    faultOf (step (standing 0b1110 .input [(.high, 1)])) = some (.reservedPhase 0b1110) := by decide

-- V-S6
theorem test_reset_input_drops :
    ofNext (step { standing Phase.bitDelay .input [] with
        timer := 7, acc := 0x33, frame := ⟨1, 2, 3, 4, 5⟩, env := ⟨21000, [⟨true, true, .low⟩], 0, 0⟩ })
      (fun t => decide ({ t with env := State.reset.env } = State.reset)) = some true := by decide

/-! ## Primitives -/

-- V-P1, V-P2
theorem test_delayUs_40 :
    ofNext (exec (.delayUs 40) { State.reset with env := ⟨20260, [], 0, 0⟩ }) (fun t => (t.env.tick, t.timer)) =
      some (20300, 0) := by decide

theorem test_delayUs_0 : ofNext (exec (.delayUs 0) State.reset) (fun t => t.env) = some State.reset.env := by decide

-- V-P9
theorem test_configureOutput :
    ofNext (exec .configureOutput (listening [(.low, 1)])) (fun t => (t.padWord, t.line)) = some (0b11, .high) := by decide

-- V-P6
theorem test_configureInput :
    ofNext (exec .configureInput (standing Phase.idle .output [(.low, 1)])) (fun t => (t.padWord, t.line)) =
      some (0b01, .low) := by decide

-- V-P4, V-P10
theorem test_setLevel_output :
    ofNext (exec (.setLevel .low) (standing Phase.idle .output [(.high, 1)])) (fun t => (t.padWord, t.line)) =
      some (0b10, .low) := by decide

theorem test_setLevel_input : refusal (exec (.setLevel .low) (listening [])) = some .setLevelInInputMode := by decide

-- V-P7, V-P11
theorem test_readLevel_input : ofNext (exec .readLevel (listening [(.low, 1)])) (·.ret) = some (.level .low) := by decide

theorem test_readLevel_output : refusal (exec .readLevel State.reset) = some .readLevelInOutputMode := by decide

/-! ## Composite operations -/

-- V-E4, V-E3: the last allowed poll, and the same line with one poll less
theorem test_waitForLevel_last_poll :
    ofNext (exec (.waitForLevel .low 4) (listening [(.high, 3), (.low, 1)])) (fun t => (t.ret, t.env.tick, t.retry)) =
      some (.ok, 3, 4) := by decide

theorem test_waitForLevel_timeout :
    ofNext (exec (.waitForLevel .low 3) (listening [(.high, 3), (.low, 1)])) (fun t => (t.ret, t.env.tick, t.retry, t.err)) =
      some (.error .timeout, 3, 3, .timeout) := by decide

-- V-B5, V-B6: the boundary of the sample
theorem test_readBit_high_40_is_zero :
    ofNext (exec .readBit (listening [(.low, 50), (.high, 40), (.low, 1)])) (fun t => (t.ret, t.env.tick)) =
      some (.bit 0, 90) := by decide +kernel

theorem test_readBit_high_41_is_one :
    ofNext (exec .readBit (listening [(.low, 50), (.high, 41), (.low, 1)])) (fun t => (t.ret, t.env.tick)) =
      some (.bit 1, 90) := by decide +kernel

-- V-Y1
theorem test_readByte_A5 :
    ofNext (exec .readByte (listening
        [(.low, 50), (.high, 70), (.low, 50), (.high, 27), (.low, 50), (.high, 70), (.low, 50), (.high, 27), (.low, 50),
         (.high, 27), (.low, 50), (.high, 70), (.low, 50), (.high, 27), (.low, 50), (.high, 70), (.low, 50)]))
      (fun t => (t.ret, t.env.tick, t.frame.b0)) = some (.byte 0xA5, 758, 0xA5) := by decide +kernel

-- V-Y4: the sensor stops after three bits
theorem test_readByte_cut :
    ofNext (exec .readByte (listening [(.low, 50), (.high, 70), (.low, 50), (.high, 27), (.low, 50), (.high, 170)]))
      (fun t => (t.ret, t.env.tick, t.frame)) = some (.error .timeout, 387, ⟨0, 0, 0, 0, 0⟩) := by decide +kernel

-- V-T11: the whole transaction in one tick, as READ and as a tick
theorem test_read_in_one_tick :
    ofNext (exec .read { standing Phase.idle .output [(.low, 1)] with
        params := { Params.defaults with reqLowUs := 0, relHighUs := 0, ackHighRetries := 0 } })
      (fun t => (t.env.tick, t.err, t.retry, t.busy, t.done, t.ret)) =
      some (0, .timeout, 0, false, true, .error .timeout) := by decide

theorem test_tick_of_six_actions :
    ofNext (step { State.reset with
        params := { Params.defaults with reqLowUs := 0, relHighUs := 0, ackHighRetries := 0 }
        env := ⟨0, [⟨false, true, .low⟩], 0, 0⟩ })
      (fun t => (t.phase, t.err, t.retry, t.busy, t.done, t.padWord)) =
      some (Phase.idle, .timeout, 0, false, true, 0b11) := by decide

-- V-C4, V-C5
theorem test_validateFrame_wraps :
    ofNext (exec (.validateFrame ⟨0xFF, 0xFF, 0xFF, 0xFF, 0xFC⟩) State.reset) (·.ret) =
      some (.reading ⟨0xFF, 0xFF, 0xFF, 0xFF⟩) := by decide

theorem test_validateFrame_rejects :
    ofNext (exec (.validateFrame ⟨0xFF, 0xFF, 0xFF, 0xFF, 0xFF⟩) State.reset) (·.ret) =
      some (.error .checksumMismatch) := by decide

-- V-H6, V-H5
theorem test_humidity : ofNext (exec (.humidity ⟨0x14, 0x19, 0x80, 0x00⟩) State.reset) (·.ret) = some (.tenths 225) := by decide

theorem test_temperature_no_sign :
    ofNext (exec (.temperature ⟨0x14, 0x19, 0x80, 0x00⟩) State.reset) (·.ret) = some (.tenths 1280) := by decide

-- V-H2
theorem test_outputs_of_a_reading :
    let s : State := { State.reset with reading := ⟨0x2D, 0x07, 0x18, 0x03⟩ }
    s.reading32Port = 0x2D071803 ∧ s.humidityTenthsPort = 457 ∧ s.temperatureTenthsPort = 243 ∧ s.humInt = 0x2D ∧
      s.tmpDec = 0x03 := by decide

/-! ## The host -/

-- R160, R161
theorem test_periodicTask_spawns :
    ofNext (exec (.periodicTask 2000) State.reset) (·.task) = some ⟨.calling, 2000, []⟩ := by decide

theorem test_periodicTask_short_interval :
    refusal (exec (.periodicTask 1999) State.reset) = some .intervalTooShort := by decide

-- P7, tick 23720: the task logs (50.0, 21.0) and suspends until 2023720
theorem test_task_logs_and_suspends :
    ofNext (step { standing Phase.endWaitLow .input [] with
        retry := 30, frame := ⟨0x32, 0x00, 0x15, 0x00, 0x47⟩, task := ⟨.waiting, 2000, []⟩, env := ⟨23720, [port .low], 0, 0⟩ })
      (fun t => (t.task, t.env.tick)) =
      some (⟨.suspended 2023720, 2000, [.info 500 210]⟩, 23721) := by decide

-- P7, tick 2023720: the second start
theorem test_task_starts_again :
    ofNext (step { State.reset with
        done := true, task := ⟨.suspended 2023720, 2000, []⟩, env := ⟨2023720, [port .high], 0, 0⟩ })
      (fun t => (t.phase, t.timer, t.task.mode, t.done)) = some (Phase.reqLow, 20000, .waiting, false) := by decide

/-! ## The waveforms of the spec -/

-- 30_encoding.md R85: a 1 and a 0
theorem test_nominal_runs_begin :
    (SensorTiming.nominal.frameRuns ⟨0x80, 0, 0, 0, 0x80⟩).take 7 =
      [(.high, 20), (.low, 80), (.high, 80), (.low, 50), (.high, 70), (.low, 50), (.high, 27)] := by decide

/-! ## Witnesses: the hypotheses of each obligation can be met together

A witness is named after its obligation. Parameters are small, so that whole transactions stay small. -/

/-- Parameters that leave room for a transaction of a few hundred ticks. -/
def small : Params :=
  { reqLowUs := 2, relHighUs := 1, ackLowRetries := 3, ackHighRetries := 3, bitLowRetries := 3, bitHighRetries := 3
    endLowRetries := 3, sampleDelayUs := 2, frameEndStrict := true, delaySlackMax := 0 }

/-- Every limit 1 and every delay 0. -/
def least : Params :=
  { reqLowUs := 0, relHighUs := 0, ackLowRetries := 1, ackHighRetries := 1, bitLowRetries := 1, bitHighRetries := 1
    endLowRetries := 1, sampleDelayUs := 0, frameEndStrict := true, delaySlackMax := 0 }

/-- A sensor whose pulses fit `small` at the edge of every bound. -/
def edge : SensorTiming := ⟨2, 2, 2, 2, 1, 3, 2⟩

/-- An idle block at the `start` of a transaction, then the line as given. -/
def starting (p : Params) (w : Waveform) : State :=
  { State.reset with params := p, env := ⟨0, (ports w).modifyHead fun i => { i with start := true }, 0, 0⟩ }

/-- A block in the wait for the end of the frame. -/
def ending : State :=
  { standing Phase.endWaitLow .input [(.low, 2)] with retry := 1, byteIdx := 4, frame := ⟨0x32, 0x00, 0x15, 0x00, 0x47⟩ }

theorem witness_DecodeAndEncodeAgree :
    (∃ (i : Instr) (w : CodeWord), encode i = some w) ∧ (∃ (w : CodeWord) (i : Instr), decode w = .ok i) :=
  ⟨⟨.reserved11xx 3, _, rfl⟩, ⟨.phase 15, _, rfl⟩⟩

theorem witness_TickKeepsTheInvariantsAndNeverStops : ending.Inv ∧ State.reset.Inv :=
  ⟨by decide, by decide⟩

theorem witness_ResetInputDropsTheTransaction :
    ∃ s : State, s.inputsNow.rst = true ∧ s.phase = Phase.bitDelay :=
  ⟨{ standing Phase.bitDelay .input [] with env := ⟨0, [⟨true, true, .low⟩], 0, 0⟩ }, by decide⟩

theorem witness_TickRunsTheFetchedInstruction :
    (ending.inputsNow.rst = false ∧ decode ending.beginTick.fetchWord = .ok .endWaitLow) ∧
      ((starting small [(.high, 1)]).inputsNow.rst = false ∧
        decode (starting small [(.high, 1)]).beginTick.fetchWord = .ok .start) :=
  ⟨⟨rfl, rfl⟩, ⟨rfl, rfl⟩⟩

theorem witness_FetchFollowsPhaseAndStart : ∃ s : State, s.task.mode = .notSpawned := ⟨State.reset, rfl⟩

theorem witness_TickTakesOneTickAndKeepsParameters : ∃ t : State, step ending = .next t := ⟨_, rfl⟩

theorem witness_OperationsKeepParametersAndHost :
    ∃ (i : Instr) (s t : State), exec i s = .next t ∧ ∀ ms, i ≠ .periodicTask ms :=
  ⟨.endWaitLow, ending, _, rfl, fun _ h => nomatch h⟩

theorem witness_IdleWithoutStartChangesNothing :
    ∃ s : State, s.phase = Phase.idle ∧ s.task.mode = .notSpawned ∧ s.inputsNow.rst = false ∧ s.inputsNow.start = false :=
  ⟨standing Phase.idle .output [(.high, 1)], by decide⟩

theorem witness_StartWhileBusyLeavesNoTrace : ending.phase ≠ Phase.idle := by decide

theorem witness_DelayDoesNotReadTheLine :
    ∃ s : State, (delayOperand s.params s.phase).isSome = true ∧ 1 < s.timer.toNat :=
  ⟨{ standing Phase.bitDelay .input [] with timer := 2 }, by decide⟩

theorem witness_ReservedPhasesFaultAndAreUnreachable :
    (∃ s : State, s.inputsNow.rst = false ∧ s.phase.toNat = 11) ∧ (∃ s : State, s.inputsNow.rst = false ∧ s.phase.toNat = 15) ∧
      (∃ t : State, runTicks 0 State.reset = .next t) :=
  ⟨⟨standing 11 .input [(.low, 1)], by decide⟩, ⟨standing 15 .input [(.low, 1)], by decide⟩, ⟨_, rfl⟩⟩

theorem witness_PhasesFollowTheSuccessorRelation :
    ∃ (s t : State) (i : Instr), decode s.fetchWord = .ok i ∧ exec i s = .next t ∧ t.phase ≠ s.phase :=
  ⟨ending, _, .endWaitLow, rfl, rfl, by decide⟩

theorem witness_StartBeginsATransaction :
    (∃ s : State, s.pinMode = .output ∧ s.phase = Phase.idle) ∧ (∃ s : State, s.pinMode = .output ∧ s.startNow = true) :=
  ⟨⟨State.reset, by decide⟩, ⟨starting small [(.high, 1)], by decide⟩⟩

theorem witness_StartIgnoredOrRefused :
    (∃ s : State, s.startNow = false) ∧ (∃ s : State, s.phase ≠ Phase.idle) ∧
      (∃ s : State, s.pinMode = .input ∧ s.phase = Phase.idle) ∧ (∃ s : State, s.pinMode = .input ∧ s.startNow = true) :=
  ⟨⟨standing Phase.idle .output [(.high, 1)], by decide⟩, ⟨ending, by decide⟩, ⟨listening [], by decide⟩,
   ⟨{ starting small [(.high, 1)] with pinMode := .input }, by decide⟩⟩

theorem witness_DelayPhasesBlock :
    (∃ s : State, s.timer ≠ 0) ∧ (∃ s : State, s.timer = 0 ∧ s.env.slack ≠ 0) :=
  ⟨⟨{ State.reset with timer := 1 }, by decide⟩, ⟨{ State.reset with env := ⟨0, [], 1, 1⟩ }, by decide⟩⟩

theorem witness_ReqLowEndsDrivingHigh :
    (∃ s : State, s.timer = 0 ∧ s.env.slack = 0 ∧ s.pinMode = .output) ∧
      (∃ s : State, s.timer = 0 ∧ s.env.slack = 0 ∧ s.pinMode = .input) :=
  ⟨⟨State.reset, by decide⟩, ⟨listening [], by decide⟩⟩

theorem witness_RelHighReleasesTheLine : ∃ s : State, s.timer = 0 ∧ s.env.slack = 0 := ⟨State.reset, by decide⟩

/-- A poll that can match: nothing polled yet, or one poll left. -/
theorem witness_MatchingPollGoesOn :
    (∃ s : State, s.env.slack = 0 ∧ s.retry ≠ s.params.ackLowRetries ∧ s.retry ≠ s.params.bitLowRetries ∧
      s.retry ≠ s.params.endLowRetries ∧ s.line = .low) ∧
    (∃ s : State, s.env.slack = 0 ∧ s.retry ≠ s.params.ackHighRetries ∧ s.retry ≠ s.params.bitHighRetries ∧ s.line = .high) :=
  ⟨⟨{ listening [(.low, 1)] with retry := 99 }, by decide⟩, ⟨{ listening [(.high, 1)] with retry := 0 }, by decide⟩⟩

theorem witness_MismatchingPollBlocks :
    ∀ c ∈ [Phase.ackWaitLow, Phase.ackWaitHigh, Phase.bitWaitLow, Phase.bitWaitHigh, Phase.endWaitLow],
      ∃ (s : State) (g : Level) (m : BitVec 8), s.phase = c ∧ waitOperands s.params s.phase = some (g, m) ∧ s.env.slack = 0 ∧
        s.retry ≠ m ∧ s.line ≠ g := by
  intro c hc
  simp only [List.mem_cons, List.not_mem_nil, or_false] at hc
  rcases hc with rfl | rfl | rfl | rfl | rfl
  · exact ⟨{ standing Phase.ackWaitLow .input [(.high, 1)] with retry := 99 }, .low, 100, by decide⟩
  · exact ⟨{ standing Phase.ackWaitHigh .input [(.low, 1)] with retry := 99 }, .high, 100, by decide⟩
  · exact ⟨{ standing Phase.bitWaitLow .input [(.high, 1)] with retry := 99 }, .low, 100, by decide⟩
  · exact ⟨{ standing Phase.bitWaitHigh .input [(.low, 1)] with retry := 99 }, .high, 100, by decide⟩
  · exact ⟨{ standing Phase.endWaitLow .input [(.high, 1)] with retry := 99 }, .low, 100, by decide⟩

theorem witness_ExhaustedWaitRaisesTimeout :
    (∃ (s : State) (g : Level) (m : BitVec 8), waitOperands s.params s.phase = some (g, m) ∧ s.env.slack = 0 ∧ s.retry = m ∧
      s.phase = Phase.endWaitLow ∧ s.params.frameEndStrict = false) ∧
    (∃ (s : State) (g : Level) (m : BitVec 8), waitOperands s.params s.phase = some (g, m) ∧ s.env.slack = 0 ∧ s.retry = m ∧
      s.params.frameEndStrict = true) :=
  ⟨⟨{ standing Phase.endWaitLow .input [] with retry := 100, params := { Params.defaults with frameEndStrict := false } },
      .low, 100, by decide⟩,
    ⟨{ standing Phase.ackWaitHigh .input [] with retry := 100 }, .high, 100, by decide⟩⟩

theorem witness_BitDelaySamplesAndAssembles :
    (∃ s : State, s.timer = 0 ∧ s.env.slack = 0 ∧ s.bitIdx ≠ 7) ∧
    (∃ s : State, s.timer = 0 ∧ s.env.slack = 0 ∧ s.bitIdx = 7 ∧ s.byteIdx.val + 1 < 5) ∧
    (∃ s : State, s.timer = 0 ∧ s.env.slack = 0 ∧ s.bitIdx = 7 ∧ s.byteIdx = 4) :=
  ⟨⟨{ State.reset with bitIdx := 6 }, by decide⟩, ⟨{ State.reset with bitIdx := 7, byteIdx := 3 }, by decide⟩,
   ⟨{ State.reset with bitIdx := 7, byteIdx := 4 }, by decide⟩⟩

theorem witness_TimeoutEndsTheTransactionInOneTick :
    ∃ (s : State) (g : Level) (m : BitVec 8), s.inputsNow.rst = false ∧ s.task.mode = .notSpawned ∧
      waitOperands s.params s.phase = some (g, m) ∧ s.params.frameEndStrict = true ∧ s.env.slack = 0 ∧ s.retry = m :=
  ⟨{ standing Phase.endWaitLow .input [(.low, 1)] with retry := 100 }, .low, 100, by decide⟩

theorem witness_NoResponseIsNeverProduced :
    (∃ (i : Instr) (s t : State), exec i s = .next t ∧ t.err = .noResponse) ∧
    (∃ s t : State, step s = .next t ∧ t.err = .noResponse) ∧ (∃ t : State, runTicks 0 State.reset = .next t) :=
  ⟨⟨.configureInput, { State.reset with err := .noResponse }, _, rfl, rfl⟩,
   ⟨{ standing Phase.idle .output [(.high, 1)] with err := .noResponse }, _, rfl, rfl⟩, ⟨_, rfl⟩⟩

theorem witness_TransactionEndsRestored :
    ∃ t : State, ending.Inv ∧ ending.busy = true ∧ ending.inputsNow.rst = false ∧ step ending = .next t ∧ t.busy = false :=
  ⟨_, by decide, rfl, rfl, rfl, rfl⟩

theorem witness_DelayLetsTicksPass : State.reset.Exact := by decide

theorem witness_PinOperations :
    (∃ s : State, s.pinMode = .output) ∧ (∃ s : State, s.pinMode = .input) := ⟨⟨State.reset, rfl⟩, ⟨listening [], rfl⟩⟩

theorem witness_PadWordFollowsThePhase :
    (∃ s : State, s.Inv ∧ s.phase = Phase.reqLow) ∧ (∃ s : State, s.Inv ∧ s.phase = Phase.idle) ∧
      (∃ s : State, s.Inv ∧ s.phase = Phase.endWaitLow) :=
  ⟨⟨{ standing Phase.reqLow .output [] with timer := 1, pinLevel := .low }, by decide⟩, ⟨State.reset, by decide⟩,
   ⟨ending, by decide⟩⟩

/-- The first poll, the last allowed poll, no match, and no poll at all. -/
theorem witness_WaitForLevelIsBounded :
    (∃ s : State, s.pinMode = .input ∧ s.Exact ∧ s.sensorAt 0 = .low) ∧
    (∃ s : State, s.pinMode = .input ∧ s.Exact ∧ 3 < (4#8).toNat ∧ s.sensorAt 3 = .low ∧ (∀ j : Nat, j < 3 → s.sensorAt j ≠ .low)) ∧
    (∃ s : State, s.pinMode = .input ∧ s.Exact ∧ ∀ j : Nat, j < (3#8).toNat → s.sensorAt j ≠ .low) ∧
    (∃ s : State, s.pinMode = .input ∧ s.Exact ∧ ∀ j : Nat, j < (0#8).toNat → s.sensorAt j ≠ .low) :=
  ⟨⟨listening [(.low, 1)], by decide⟩, ⟨listening [(.high, 3), (.low, 1)], by decide⟩,
   ⟨listening [(.high, 3), (.low, 1)], by decide⟩, ⟨listening [], by decide⟩⟩

theorem witness_ReadBitIsOneSample :
    ∃ (s : State) (a b : Nat), s.pinMode = .input ∧ s.Exact ∧
      a < s.params.bitLowRetries.toNat ∧ s.sensorAt a = .low ∧ (∀ j : Nat, j < a → s.sensorAt j = .high) ∧
      b < s.params.bitHighRetries.toNat ∧ s.sensorAt (a + b) = .high ∧ (∀ j : Nat, j < b → s.sensorAt (a + j) = .low) :=
  ⟨{ listening [(.high, 2), (.low, 2), (.high, 1), (.low, 2)] with params := small }, 2, 2, by decide⟩

theorem witness_ReadBitTimesOut :
    (∃ s : State, s.pinMode = .input ∧ s.Exact ∧ ∀ j : Nat, j < s.params.bitLowRetries.toNat → s.sensorAt j = .high) ∧
    (∃ (s : State) (a : Nat), s.pinMode = .input ∧ s.Exact ∧ a < s.params.bitLowRetries.toNat ∧ s.sensorAt a = .low ∧
      (∀ j : Nat, j < a → s.sensorAt j = .high) ∧
      (∀ j : Nat, j < s.params.bitHighRetries.toNat → s.sensorAt (a + j) = .low)) :=
  ⟨⟨{ listening [(.high, 3)] with params := small }, by decide⟩,
   ⟨{ listening [(.high, 2), (.low, 3)] with params := small }, 2, by decide⟩⟩

theorem witness_ListeningNeedsInputMode : State.reset.pinMode = .output ∧ State.reset.params.bitLowRetries ≠ 0 := by decide

theorem witness_HighPhaseLengthDecidesTheBit :
    (∃ (s : State) (l w : Nat), s.pinMode = .input ∧ s.Exact ∧ 1 ≤ l ∧ l < s.params.bitHighRetries.toNat ∧
      1 ≤ s.params.bitLowRetries.toNat ∧ 1 ≤ w ∧ (∀ j : Nat, j < l → s.sensorAt j = .low) ∧
      (∀ j : Nat, j < w → s.sensorAt (l + j) = .high) ∧ s.params.sampleDelayUs.toNat < w) ∧
    (∃ (s : State) (l w : Nat), s.pinMode = .input ∧ s.Exact ∧ 1 ≤ l ∧ l < s.params.bitHighRetries.toNat ∧
      1 ≤ s.params.bitLowRetries.toNat ∧ 1 ≤ w ∧ (∀ j : Nat, j < l → s.sensorAt j = .low) ∧
      (∀ j : Nat, j < w → s.sensorAt (l + j) = .high) ∧ w ≤ s.params.sampleDelayUs.toNat ∧
      (∀ j : Nat, j ≤ s.params.sampleDelayUs.toNat → w ≤ j → s.sensorAt (l + j) = .low)) :=
  ⟨⟨{ listening [(.low, 2), (.high, 3)] with params := small }, 2, 3, by decide⟩,
   ⟨{ listening [(.low, 2), (.high, 2), (.low, 1)] with params := small }, 2, 2, by decide⟩⟩

theorem witness_ReadByteDecodesAWellTimedByte :
    ∃ (s : State) (t : SensorTiming) (v : U8), s.pinMode = .input ∧ s.Exact ∧ t.BitsFit s.params ∧
      s.sensorSends (expand (t.bitRuns (byteBits v) ++ [(.low, t.bitLow)])) :=
  ⟨{ listening (edge.bitRuns (byteBits 0xA5) ++ [(.low, 2)]) with params := small }, edge, 0xA5, by decide +kernel⟩

theorem witness_ReadByteIsAllOrNothing :
    (∃ t : State, exec .readByte { listening (edge.bitRuns (byteBits 0xA5)) with params := small } = .next t) ∧
    (∃ t : State, exec .readByte { listening [(.low, 3)] with params := small } = .next t) := ⟨⟨_, rfl⟩, ⟨_, rfl⟩⟩

theorem witness_ReadDecodesAWellTimedFrame :
    ∃ (s : State) (t : SensorTiming) (f : Frame), s.phase = Phase.idle ∧ s.pinMode = .output ∧ s.Exact ∧
      t.BitsFit s.params ∧ t.HandshakeFits s.params ∧
      (s.elapse (s.params.reqLowUs.toNat + s.params.relHighUs.toNat)).sensorSends (expand (t.frameRuns f)) :=
  ⟨starting small ((.high, 3) :: edge.frameRuns ⟨0x32, 0x00, 0x15, 0x00, 0x47⟩), edge, ⟨0x32, 0x00, 0x15, 0x00, 0x47⟩,
   by decide +kernel⟩

theorem witness_AbsentSensorTimesOut :
    ∃ s : State, s.phase = Phase.idle ∧ s.pinMode = .output ∧ s.Exact ∧
      (∀ j : Nat, j < s.params.ackLowRetries.toNat →
        s.sensorAt (s.params.reqLowUs.toNat + s.params.relHighUs.toNat + j) = .high) :=
  ⟨starting small [(.high, 6)], by decide⟩

theorem witness_ReadAgreesWithTheTicks :
    ∃ s t : State, s.ReadyForCommand ∧ s.inputsNow.start = true ∧ exec .read s = .next t ∧
      (∀ k : Nat, s.env.tick + k ≤ t.env.tick → s.rstAt k = false) ∧ s.env.tick + 6 ≤ t.env.tick := by
  have hr : ∀ k : Nat, k < 7 → (starting small [(.high, 7)]).rstAt k = false := by decide
  refine ⟨starting small [(.high, 7)],
    { starting small [(.high, 7)] with
      done := true, err := .timeout, retry := 3, ret := .error .timeout, env := ⟨6, [port .high], 0, 0⟩ },
    by decide, rfl, rfl, fun k hk => hr k ?_, by decide⟩
  have hk' : 0 + k ≤ 6 := hk
  omega

theorem witness_ReadForgetsTheLastTransaction :
    ∃ s u : State, s.phase = Phase.idle ∧ u.phase = Phase.idle ∧ s.pinMode = u.pinMode ∧ s.params = u.params ∧ s.env = u.env ∧
      s.task = u.task ∧ s ≠ u :=
  ⟨State.reset, { State.reset with retry := 31, acc := 1, done := true, err := .timeout, pinLevel := .low }, by decide⟩

theorem witness_ReadCompletesFromIdle :
    (∃ s : State, s.phase ≠ Phase.idle) ∧ (∃ s : State, s.phase = Phase.idle ∧ s.pinMode = .input) ∧
      (∃ s : State, s.phase = Phase.idle ∧ s.pinMode = .output) :=
  ⟨⟨ending, by decide⟩, ⟨listening [], by decide⟩, ⟨State.reset, by decide⟩⟩

theorem witness_ReadDurationIsBounded :
    ∃ s t : State, s.phase = Phase.idle ∧ s.Exact ∧ exec .read s = .next t ∧ s.params.LimitsPositive :=
  ⟨starting small [(.high, 7)], _, by decide, by decide, rfl, by decide⟩

theorem witness_EveryTransactionEnds :
    ∃ s : State, s.Inv ∧ s.Exact ∧ s.params.LimitsPositive ∧ s.busy = true ∧
      (∀ k : Nat, k ≤ s.params.greatestDuration → s.rstAt k = false) :=
  ⟨{ ending with params := least }, by decide⟩

theorem witness_ValidateFrameAnswersByTheChecksum :
    (∃ f : Frame, (f.b0.toNat + f.b1.toNat + f.b2.toNat + f.b3.toNat) % 256 = f.b4.toNat) ∧
      (∃ f : Frame, (f.b0.toNat + f.b1.toNat + f.b2.toNat + f.b3.toNat) % 256 ≠ f.b4.toNat) :=
  ⟨⟨⟨0xFF, 0xFF, 0xFF, 0xFF, 0xFC⟩, by decide⟩, ⟨⟨0, 0, 0, 0, 1⟩, by decide⟩⟩

theorem witness_TenthsOutputs : ∃ s : State, s.reading = ⟨0, 0, 0, 0⟩ := ⟨State.reset, rfl⟩

theorem witness_ShiftAndPositionalFormsAgree : ∃ s : State, s.timer = 0 ∧ s.env.slack = 0 ∧ s.bitIdx ≠ 7 :=
  ⟨{ State.reset with bitIdx := 6 }, by decide⟩

theorem witness_PeriodicTaskIsSpawnedOnce :
    (∃ s : State, s.task.mode = .notSpawned) ∧ (∃ s : State, s.task.mode ≠ .notSpawned) :=
  ⟨⟨State.reset, rfl⟩, ⟨{ State.reset with task := ⟨.waiting, 2000, []⟩ }, by decide⟩⟩

theorem witness_TaskLogsAndSuspendsInBothCases :
    (∃ s t : State, s.inputsNow.rst = false ∧ s.task.mode = .waiting ∧ step s = .next t ∧ t.done = true ∧ t.err = .none) ∧
    (∃ s t : State, s.inputsNow.rst = false ∧ s.task.mode = .waiting ∧ step s = .next t ∧ t.done = true ∧ t.err ≠ .none) :=
  ⟨⟨{ ending with task := ⟨.waiting, 2000, []⟩ }, _, rfl, rfl, rfl, rfl, rfl⟩,
   ⟨{ ending with retry := 100, task := ⟨.waiting, 2000, []⟩ }, _, rfl, rfl, rfl, rfl, by decide⟩⟩

theorem witness_SuspendedTaskKeepsTheBlockIdle :
    ∃ (s : State) (wake : Nat), s.phase = Phase.idle ∧ s.task.mode = .suspended wake ∧ s.env.tick + 3 ≤ wake ∧
      (∀ k : Nat, k < 3 → s.rstAt k = false) :=
  ⟨{ standing Phase.idle .output [(.high, 3)] with task := ⟨.suspended 3, 2000, []⟩ }, 3, by decide⟩

/-! ### Two starts two million ticks apart

The run is too long to compute; its idle part is an induction. -/

/-- The block between two starts of a task, after a transaction that lasted no tick; `q` is what is queued. -/
def between (tick : Nat) (q : List PortInputs) : State :=
  { State.reset with
    params := { least with ackHighRetries := 0 }, done := true, err := .timeout
    task := ⟨.suspended (0 + 2000 * Config.ticksPerMs), 2000, [.warning .timeout]⟩, env := ⟨tick, q, 0, 0⟩ }

/-- The task about to call for the first time. -/
def firstCall (q : List PortInputs) : State :=
  { State.reset with params := { least with ackHighRetries := 0 }, task := ⟨.calling, 2000, []⟩, env := ⟨0, q, 0, 0⟩ }

theorem firstCall_step (q : List PortInputs) : step (firstCall (port .low :: q)) = .next (between 1 q) := rfl

theorem between_step (tick : Nat) (q : List PortInputs) (h : tick < 2000000) :
    step (between tick (port .low :: q)) = .next (between (tick + 1) q) := by
  have hr : (between tick (port .low :: q)).taskRaises = false := by
    have : ¬0 + 2000 * Config.ticksPerMs ≤ tick := by
      have : Config.ticksPerMs = 1000 := rfl
      omega
    simp only [State.taskRaises, between, this, decide_false, Bool.false_and]
  have hs : (between tick (port .low :: q)).beginTick = between tick (port .low :: q) := rfl
  have hn : (between tick (port .low :: q)).startNow = false := hr
  rw [tick_noReset rfl, tickBlock, hr, hs]
  have ha : runActions maxActions (between tick (port .low :: q)) = .next (between tick (port .low :: q)) := by
    rw [maxActions, runActions_succ, if_neg (by simp [hn])]
    have : exec (decodePhase (between tick (port .low :: q)).phase) (between tick (port .low :: q)) =
        .next (between tick (port .low :: q)) := by
      show execIdle _ = _
      rw [execIdle, hn]
      rfl
    rw [this]
    rfl
  rw [ha]
  rfl

theorem between_run (n tick : Nat) (q : List PortInputs) (h : tick + n ≤ 2000000) :
    runTicks n (between tick (List.replicate n (port .low) ++ q)) = .next (between (tick + n) q) := by
  induction n generalizing tick with
  | zero => rfl
  | succ n ih =>
    rw [runTicks_succ, List.replicate_succ, List.cons_append, between_step tick _ (by omega), andThen_next,
      ih (tick + 1) (by omega), Nat.add_right_comm tick 1 n]
    rfl

theorem witness_StartsAreTwoSecondsApart :
    ∃ (n : Nat) (s t : State), 2000 ≤ s.task.intervalMs ∧ s.taskRaises = true ∧ 0 < n ∧ runTicks n s = .next t ∧
      t.taskRaises = true := by
  refine ⟨1999999 + 1, firstCall (port .low :: (List.replicate 1999999 (port .low) ++ [])), between (1 + 1999999) [],
    Nat.le_refl 2000, rfl, Nat.succ_pos _, ?_, by decide⟩
  rw [runTicks_succ, firstCall_step, andThen_next, between_run 1999999 1 [] (by omega)]

theorem witness_WaitingTaskHasATransactionRunning :
    ∃ s t : State, s.Inv ∧ s.TaskWaitsOnRun ∧ step s = .next t ∧ t.task.mode = .waiting :=
  ⟨{ standing Phase.endWaitLow .input [(.high, 1)] with retry := 1, byteIdx := 4, task := ⟨.waiting, 2000, []⟩ }, _, by decide,
   by decide, rfl, rfl⟩

end Sys2Proof.Tests
end

section
/-! The output ports as functions of the registers (R34, R36), and the state after reset (R40). -/

namespace Sys2Proof.Machine

/-- An output pin at high is driven high at the pad (R36). -/
theorem State.linePorts_of_output_high {s : State} (hmode : s.pinMode = .output) (hlevel : s.pinLevel = .high) :
    s.lineOe = 1 ∧ s.lineOut = 1 := by
  simp [State.lineOe, State.lineOut, hmode, hlevel, PinMode.code, Level.code]

/-- The status ports are 0 when no transaction runs, none has ended and there is no error (R36). -/
theorem State.statusPorts_of_clear {s : State} (hbusy : s.busy = false) (hdone : s.done = false) (herr : s.err = .none) :
    s.busyPort = 0 ∧ s.donePort = 0 ∧ s.errPort = 0 := by
  simp [State.busyPort, State.donePort, State.errPort, hbusy, hdone, herr, ErrCode.code]

/-- The four byte ports show the four bytes of `reading` (R34). -/
theorem State.bytePorts_of_reading {s : State} {b0 b1 b2 b3 : U8} (h : s.reading = ⟨b0, b1, b2, b3⟩) :
    s.humInt = b0 ∧ s.humDec = b1 ∧ s.tmpInt = b2 ∧ s.tmpDec = b3 := by
  simp [State.humInt, State.humDec, State.tmpInt, State.tmpDec, h]

/-- The packed and the tenths ports are 0 for the reading of four zero bytes (R34). -/
theorem State.derivedPorts_of_reading_zero {s : State} (h : s.reading = ⟨0, 0, 0, 0⟩) :
    s.reading32Port = 0 ∧ s.humidityTenthsPort = 0 ∧ s.temperatureTenthsPort = 0 := by
  simp [State.reading32Port, State.humidityTenthsPort, State.temperatureTenthsPort, h, reading32, humidityTenths,
    temperatureTenths]

/-- Settles O4: the registers hold the values of R40 by definition of `State.reset`, and the ports follow from them. -/
theorem resetStateIsTheTable : Obligations.ResetStateIsTheTable := by
  obtain ⟨hoe, hout⟩ := State.linePorts_of_output_high (s := State.reset) rfl rfl
  obtain ⟨hbusy, hdone, herr⟩ := State.statusPorts_of_clear (s := State.reset) rfl rfl rfl
  obtain ⟨hhumInt, hhumDec, htmpInt, htmpDec⟩ := State.bytePorts_of_reading (s := State.reset) rfl
  obtain ⟨hpacked, hhumidity, htemperature⟩ := State.derivedPorts_of_reading_zero (s := State.reset) rfl
  exact ⟨rfl, rfl, rfl, rfl, rfl, rfl, rfl, rfl, rfl, rfl, rfl, rfl, rfl, hoe, hout, hbusy, hdone, herr,
    hhumInt, hhumDec, htmpInt, htmpDec, hpacked, hhumidity, htemperature⟩

end Sys2Proof.Machine
end

section
/-! The tenths outputs and the exact rationals of the reading (R153, R154, R157). -/

namespace Sys2Proof.Machine

/-- Ten times a byte plus a byte is at most 2805, so it does not wrap in the 12 bits of a tenths output (R157). -/
theorem tenthsOfBytes_toNat (integral decimal : U8) :
    (10 * integral.setWidth 12 + decimal.setWidth 12 : BitVec 12).toNat = 10 * integral.toNat + decimal.toNat := by
  have hsum : 10 * integral.toNat + decimal.toNat < 2 ^ 12 := by omega
  calc (10 * integral.setWidth 12 + decimal.setWidth 12 : BitVec 12).toNat
      _ = (10 * integral.toNat + decimal.toNat) % 2 ^ 12 := by simp
      _ = 10 * integral.toNat + decimal.toNat := Nat.mod_eq_of_lt hsum

theorem humidityTenths_toNat (r : Reading) :
    (humidityTenths r).toNat = 10 * r.humidityIntegral.toNat + r.humidityDecimal.toNat :=
  tenthsOfBytes_toNat r.humidityIntegral r.humidityDecimal

theorem temperatureTenths_toNat (r : Reading) :
    (temperatureTenths r).toNat = 10 * r.temperatureIntegral.toNat + r.temperatureDecimal.toNat :=
  tenthsOfBytes_toNat r.temperatureIntegral r.temperatureDecimal

theorem humidityTenths_le (r : Reading) : (humidityTenths r).toNat ≤ 2805 := by
  rw [humidityTenths_toNat]
  omega

theorem temperatureTenths_le (r : Reading) : (temperatureTenths r).toNat ≤ 2805 := by
  rw [temperatureTenths_toNat]
  omega

/-- Ten times an integral part and tenths, as R153 and R154 add them, is a whole number of tenths. -/
theorem ten_mul_add_div_ten (integral tenths : Rat) : 10 * (integral + tenths / 10) = 10 * integral + tenths := by
  have hten : (10 : Rat) ≠ 0 := by decide
  rw [Rat.mul_add, Rat.mul_comm 10 (tenths / 10), Rat.div_mul_cancel hten]

theorem humidityTenths_eq_ten_mul_humidityValue (r : Reading) :
    ((humidityTenths r).toNat : Rat) = 10 * humidityValue r := by
  rw [humidityTenths_toNat, humidityValue, ten_mul_add_div_ten, Rat.natCast_add, Rat.natCast_mul, Rat.natCast_ofNat]

theorem temperatureTenths_eq_ten_mul_temperatureValue (r : Reading) :
    ((temperatureTenths r).toNat : Rat) = 10 * temperatureValue r := by
  rw [temperatureTenths_toNat, temperatureValue, ten_mul_add_div_ten, Rat.natCast_add, Rat.natCast_mul, Rat.natCast_ofNat]

/-- Settles O53: each tenths port is the tenths of the reading, whose 12-bit sum does not wrap. -/
theorem tenthsOutputs : Obligations.TenthsOutputs := by
  refine ⟨fun s => ?_, by decide⟩
  exact ⟨humidityTenths_toNat s.reading, temperatureTenths_toNat s.reading,
    humidityTenths_le s.reading, temperatureTenths_le s.reading,
    humidityTenths_eq_ten_mul_humidityValue s.reading, temperatureTenths_eq_ten_mul_temperatureValue s.reading,
    fun hzero => (State.derivedPorts_of_reading_zero hzero).2⟩

end Sys2Proof.Machine
end

section
/-! The code words and the enumerations' codes (30_encoding.md R72 to R80, R86). -/

namespace Sys2Proof

/-- A phase code is one of the eleven phases, RESERVED_1011, or RESERVED_11xx (R76, R80). -/
theorem encode_decodePhase (code : BitVec 4) : encode (decodePhase code) = some (.phase code) := by
  revert code
  decide

theorem decodePhase_reserved11xx (low : BitVec 2) : decodePhase (0b11#2 ++ low) = .reserved11xx low := by
  revert low
  decide

theorem decode_encode {i : Instr} {w : CodeWord} (h : encode i = some w) : decode w = .ok i := by
  cases i with
  | reserved11xx low =>
    cases h
    exact congrArg Except.ok (decodePhase_reserved11xx low)
  | _ => cases h <;> rfl

theorem encode_decode {w : CodeWord} {i : Instr} (h : decode w = .ok i) : encode i = some w := by
  cases w with
  | phase code =>
    cases h
    exact encode_decodePhase code
  | command level =>
    simp only [decode] at h
    split at h
    · next hlevel => cases h; rw [hlevel]; rfl
    · cases h

/-- Settles O2, one half by the rows of the encoder, the other by the kinds of code word. -/
theorem decodeAndEncodeAgree : Obligations.DecodeAndEncodeAgree :=
  ⟨fun _ _ => decode_encode, fun _ _ => encode_decode⟩

/-- Settles O1, by evaluating the decoder on each word. -/
theorem codeWordsDecodeToTheirRows : Obligations.CodeWordsDecodeToTheirRows := by
  refine ⟨?_, ?_, ?_, ?_, ?_, ?_, ?_, ?_, ?_, ?_, ?_, ?_, ?_, ?_, ?_, ?_, ?_, ?_⟩ <;> rfl

/-- Settles O3, by the definition of the codes. -/
theorem enumerationCodes : Obligations.EnumerationCodes :=
  ⟨rfl, rfl, Machine.Level.ofCode_code, rfl, rfl, rfl, rfl, rfl, rfl⟩

end Sys2Proof
end

section
/-! One zero-time action of a tick: which one is fetched, and everything it can do (R130 to R141). -/

namespace Sys2Proof.Machine

/-! ## The delay phases and the wait phases -/

/-- The delay phases are REQ_LOW, REL_HIGH and BIT_DELAY (R26). -/
theorem delayOperand_isSome_iff (p : Params) (c : BitVec 4) :
    (delayOperand p c).isSome = true ↔ c = Phase.reqLow ∨ c = Phase.relHigh ∨ c = Phase.bitDelay := by
  unfold delayOperand
  split
  · next h => simp [h]
  · split
    · next h => simp [h]
    · split <;> simp_all

/-- The five rows of R103. -/
theorem waitOperands_cases {p : Params} {c : BitVec 4} {g : Level} {m : BitVec 8} (h : waitOperands p c = some (g, m)) :
    (c = Phase.ackWaitLow ∧ g = .low ∧ m = p.ackLowRetries) ∨ (c = Phase.ackWaitHigh ∧ g = .high ∧ m = p.ackHighRetries) ∨
    (c = Phase.bitWaitLow ∧ g = .low ∧ m = p.bitLowRetries) ∨ (c = Phase.bitWaitHigh ∧ g = .high ∧ m = p.bitHighRetries) ∨
    (c = Phase.endWaitLow ∧ g = .low ∧ m = p.endLowRetries) := by
  unfold waitOperands at h
  repeat' split at h
  all_goals cases h
  all_goals simp_all

/-- Every phase code: rest, a delay, a wait, one of the two last phases, or reserved (R76, R80). -/
theorem phase_cases (p : Params) (c : BitVec 4) :
    c = Phase.idle ∨ (c = Phase.reqLow ∨ c = Phase.relHigh ∨ c = Phase.bitDelay) ∨
      (∃ g m, waitOperands p c = some (g, m)) ∨ c = Phase.validate ∨ c = Phase.restore ∨ 11 ≤ c.toNat := by
  have hcodes : c = Phase.idle ∨ (c = Phase.reqLow ∨ c = Phase.relHigh ∨ c = Phase.bitDelay) ∨
      (c = Phase.ackWaitLow ∨ c = Phase.ackWaitHigh ∨ c = Phase.bitWaitLow ∨ c = Phase.bitWaitHigh ∨ c = Phase.endWaitLow) ∨
      c = Phase.validate ∨ c = Phase.restore ∨ 11 ≤ c.toNat := by
    revert c
    decide
  rcases hcodes with h | h | h | h | h | h
  · exact .inl h
  · exact .inr (.inl h)
  · refine .inr (.inr (.inl ?_))
    rcases h with rfl | rfl | rfl | rfl | rfl <;> exact ⟨_, _, rfl⟩
  · exact .inr (.inr (.inr (.inl h)))
  · exact .inr (.inr (.inr (.inr (.inl h))))
  · exact .inr (.inr (.inr (.inr (.inr h))))

/-! ## What an action does -/

/-- The operation the code word of the moment selects (R76, R142). -/
def State.fetched (s : State) : Instr :=
  if s.phase = Phase.idle ∧ s.startNow = true then .start else decodePhase s.phase

theorem decode_fetchWord_fetched (s : State) : decode s.fetchWord = .ok s.fetched := decode_fetchWord s

/-- One tick of the slack left is used up (R91). -/
def State.spendSlack (s : State) : State := { s with env := { s.env with slack := s.env.slack - 1 } }

/-- A wait phase whose poll matches goes on to its successor (R103, R134 to R137, R139). -/
def State.matched (s : State) : State :=
  if s.phase = Phase.ackWaitLow then s.enterWait Phase.ackWaitHigh
  else if s.phase = Phase.ackWaitHigh then s.enterWait Phase.bitWaitLow
  else if s.phase = Phase.bitWaitLow then s.enterWait Phase.bitWaitHigh
  else if s.phase = Phase.bitWaitHigh then s.enterDelay Phase.bitDelay s.params.sampleDelayUs
  else s.enterPhase Phase.validate

/-- A wait phase at its limit (R101, R139). -/
def State.exhausted (s : State) : State :=
  if s.phase = Phase.endWaitLow then s.endWaitFailed else s.raise .timeout

theorem State.matched_ackWaitLow {s : State} (hp : s.phase = Phase.ackWaitLow) :
    s.matched = s.enterWait Phase.ackWaitHigh := by simp +decide [State.matched, hp]
theorem State.matched_ackWaitHigh {s : State} (hp : s.phase = Phase.ackWaitHigh) :
    s.matched = s.enterWait Phase.bitWaitLow := by simp +decide [State.matched, hp]
theorem State.matched_bitWaitLow {s : State} (hp : s.phase = Phase.bitWaitLow) :
    s.matched = s.enterWait Phase.bitWaitHigh := by simp +decide [State.matched, hp]
theorem State.matched_bitWaitHigh {s : State} (hp : s.phase = Phase.bitWaitHigh) :
    s.matched = s.enterDelay Phase.bitDelay s.params.sampleDelayUs := by simp +decide [State.matched, hp]
theorem State.matched_endWaitLow {s : State} (hp : s.phase = Phase.endWaitLow) :
    s.matched = s.enterPhase Phase.validate := by simp +decide [State.matched, hp]

theorem State.exhausted_raises {s : State} (hp : s.phase ≠ Phase.endWaitLow) : s.exhausted = s.raise .timeout := by
  simp [State.exhausted, hp]
theorem State.exhausted_endWaitLow {s : State} (hp : s.phase = Phase.endWaitLow) : s.exhausted = s.endWaitFailed := by
  simp [State.exhausted, hp]

/-- One poll counted. -/
def State.countPoll (s : State) : State := { s with retry := s.retry + 1 }

@[simp] theorem State.countPoll_phase (s : State) : s.countPoll.phase = s.phase := rfl
@[simp] theorem State.countPoll_retry (s : State) : s.countPoll.retry = s.retry + 1 := rfl
@[simp] theorem State.countPoll_params (s : State) : s.countPoll.params = s.params := rfl

/-- The registers at the start of a transaction (R131). -/
def State.begun (s : State) : State :=
  ({ s.clearForTransaction with pinLevel := .low } : State).enterDelay Phase.reqLow s.params.reqLowUs

/-- The end of REQ_LOW (R132). -/
def State.reqLowEnded (s : State) : State :=
  ({ s with pinLevel := .high } : State).enterDelay Phase.relHigh s.params.relHighUs

/-- The end of REL_HIGH (R133). -/
def State.relHighEnded (s : State) : State := s.configureInput.enterWait Phase.ackWaitLow

/-- What the action of a tick can do from `s`, one case for each branch of R131 to R141. -/
inductive Acts (s : State) : State → Prop
  | rest (hp : s.phase = Phase.idle) (hstart : s.startNow = false) : Acts s s
  | begins (hp : s.phase = Phase.idle) (hstart : s.startNow = true) (hm : s.pinMode = .output) : Acts s s.begun
  | delayRuns (hp : s.phase = Phase.reqLow ∨ s.phase = Phase.relHigh ∨ s.phase = Phase.bitDelay) (ht : s.timer ≠ 0) : Acts s s
  | delaySlack (hp : s.phase = Phase.reqLow ∨ s.phase = Phase.relHigh ∨ s.phase = Phase.bitDelay) (ht : s.timer = 0)
      (hs : s.env.slack ≠ 0) : Acts s s.spendSlack
  | reqLowEnds (hp : s.phase = Phase.reqLow) (ht : s.timer = 0) (hs : s.env.slack = 0) (hm : s.pinMode = .output) :
      Acts s s.reqLowEnded
  | relHighEnds (hp : s.phase = Phase.relHigh) (ht : s.timer = 0) (hs : s.env.slack = 0) : Acts s s.relHighEnded
  | samples (hp : s.phase = Phase.bitDelay) (ht : s.timer = 0) (hs : s.env.slack = 0) : Acts s s.sampleBit
  | waitSlack (g : Level) (m : BitVec 8) (hw : waitOperands s.params s.phase = some (g, m)) (hs : s.env.slack ≠ 0) :
      Acts s s.spendSlack
  | exhausts (g : Level) (m : BitVec 8) (hw : waitOperands s.params s.phase = some (g, m)) (hs : s.env.slack = 0)
      (hr : s.retry = m) : Acts s s.exhausted
  | pollMatches (g : Level) (m : BitVec 8) (hw : waitOperands s.params s.phase = some (g, m)) (hs : s.env.slack = 0)
      (hr : s.retry ≠ m) (hl : s.line = g) : Acts s s.countPoll.matched
  | mismatches (g : Level) (m : BitVec 8) (hw : waitOperands s.params s.phase = some (g, m)) (hs : s.env.slack = 0)
      (hr : s.retry ≠ m) (hl : s.line ≠ g) : Acts s s.countPoll.drawSlack
  | validates (hp : s.phase = Phase.validate) : Acts s (s.validateRegs.enterPhase Phase.restore)
  | restores (hp : s.phase = Phase.restore) : Acts s s.restoreLine

/-- Two wait actions with the same ends at this state are the same (R101). -/
theorem waitAction_congr {g : Level} {m : BitVec 8} {f f' e e' : State → State} {s : State}
    (hmatch : f s.countPoll = f' s.countPoll) (hend : e s = e' s) : waitAction g m f e s = waitAction g m f' e' s := by
  rcases waitAction_cases g m f e s with ⟨hs, h⟩ | ⟨hs, hr, h⟩ | ⟨hs, hr, hl, h⟩ | ⟨hs, hr, hl, h⟩
  · simp [waitAction, hs]
  · simp [waitAction, hs, hr, hend]
  · simp only [waitAction, hs, hr, hl]
    exact congrArg Host.Outcome.next hmatch
  · simp [waitAction, hs, hr, hl]

/-- The five wait phases are one action (R101, R103). -/
theorem exec_wait {s : State} {g : Level} {m : BitVec 8} (hw : waitOperands s.params s.phase = some (g, m)) :
    exec (decodePhase s.phase) s = waitAction g m State.matched State.exhausted s := by
  rcases waitOperands_cases hw with ⟨hp, rfl, rfl⟩ | ⟨hp, rfl, rfl⟩ | ⟨hp, rfl, rfl⟩ | ⟨hp, rfl, rfl⟩ | ⟨hp, rfl, rfl⟩ <;>
    rw [hp]
  · show execAckWaitLow s = _
    exact waitAction_congr (State.matched_ackWaitLow (s := s.countPoll) hp).symm (State.exhausted_raises (by rw [hp]; decide)).symm
  · show execAckWaitHigh s = _
    exact waitAction_congr (State.matched_ackWaitHigh (s := s.countPoll) hp).symm (State.exhausted_raises (by rw [hp]; decide)).symm
  · show execBitWaitLow s = _
    exact waitAction_congr (State.matched_bitWaitLow (s := s.countPoll) hp).symm (State.exhausted_raises (by rw [hp]; decide)).symm
  · show execBitWaitHigh s = _
    exact waitAction_congr (State.matched_bitWaitHigh (s := s.countPoll) hp).symm (State.exhausted_raises (by rw [hp]; decide)).symm
  · show execEndWaitLow s = _
    exact waitAction_congr (State.matched_endWaitLow (s := s.countPoll) hp).symm (State.exhausted_endWaitLow hp).symm

/-- Outside IDLE with `start`, the operation is the phase's. -/
theorem State.fetched_of_busy {s : State} (hp : s.phase ≠ Phase.idle) : s.fetched = decodePhase s.phase := by
  simp [State.fetched, hp]

theorem State.fetched_start {s : State} (hp : s.phase = Phase.idle) (hstart : s.startNow = true) : s.fetched = .start := by
  simp [State.fetched, hp, hstart]

theorem State.fetched_idle {s : State} (hp : s.phase = Phase.idle) (hstart : s.startNow = false) : s.fetched = .idle := by
  simp [State.fetched, hp, hstart, decodePhase]

theorem State.fetched_wait {s : State} {g : Level} {m : BitVec 8} (hw : waitOperands s.params s.phase = some (g, m)) :
    s.fetched = decodePhase s.phase := by
  refine State.fetched_of_busy fun hp => ?_
  rw [hp] at hw
  cases hw

/-- The reserved codes fault (R80, R143). -/
theorem exec_reserved {s : State} (hp : 11 ≤ s.phase.toNat) : exec s.fetched s = .fault (.reservedPhase s.phase) := by
  have hcode : ∀ c : BitVec 4, 11 ≤ c.toNat →
      (decodePhase c = .reserved1011 ∧ c = 0b1011#4) ∨
        (decodePhase c = .reserved11xx (c.setWidth 2) ∧ c = 0b11#2 ++ c.setWidth 2) := by
    decide
  have hidle : s.phase ≠ Phase.idle := by
    intro h
    rw [h] at hp
    exact absurd hp (by decide)
  rw [State.fetched_of_busy hidle]
  rcases hcode s.phase hp with ⟨hd, hc⟩ | ⟨hd, hc⟩
  · rw [hd, hc]; rfl
  · rw [hd]
    exact congrArg (fun c => Host.Outcome.fault (Fault.reservedPhase c)) hc.symm

theorem exec_fetched_reqLow {s : State} (hp : s.phase = Phase.reqLow) : exec s.fetched s = execReqLow s := by
  rw [State.fetched_of_busy (by rw [hp]; decide), hp]; rfl

theorem exec_fetched_relHigh {s : State} (hp : s.phase = Phase.relHigh) : exec s.fetched s = execRelHigh s := by
  rw [State.fetched_of_busy (by rw [hp]; decide), hp]; rfl

theorem exec_fetched_bitDelay {s : State} (hp : s.phase = Phase.bitDelay) : exec s.fetched s = execBitDelay s := by
  rw [State.fetched_of_busy (by rw [hp]; decide), hp]; rfl

/-- The three delay phases are one action with three ends (R132, R133, R138). -/
theorem exec_delay {s : State} (hp : s.phase = Phase.reqLow ∨ s.phase = Phase.relHigh ∨ s.phase = Phase.bitDelay) :
    ∃ onEnd, exec s.fetched s = delayAction onEnd s := by
  rcases hp with hp | hp | hp
  · exact ⟨_, exec_fetched_reqLow hp⟩
  · exact ⟨_, exec_fetched_relHigh hp⟩
  · exact ⟨_, exec_fetched_bitDelay hp⟩

theorem exec_delayRuns {s : State} (hp : s.phase = Phase.reqLow ∨ s.phase = Phase.relHigh ∨ s.phase = Phase.bitDelay)
    (ht : s.timer ≠ 0) : exec s.fetched s = .next s := by
  obtain ⟨onEnd, he⟩ := exec_delay hp
  rw [he, delayAction, if_pos ht]

theorem exec_delaySlack {s : State} (hp : s.phase = Phase.reqLow ∨ s.phase = Phase.relHigh ∨ s.phase = Phase.bitDelay)
    (ht : s.timer = 0) (hs : s.env.slack ≠ 0) : exec s.fetched s = .next s.spendSlack := by
  obtain ⟨onEnd, he⟩ := exec_delay hp
  rw [he, delayAction, if_neg (by simp [ht]), if_pos hs]
  rfl

theorem exec_reqLowEnds {s : State} (hp : s.phase = Phase.reqLow) (ht : s.timer = 0) (hs : s.env.slack = 0)
    (hm : s.pinMode = .output) : exec s.fetched s = .next s.reqLowEnded := by
  rw [exec_fetched_reqLow hp, execReqLow, delayAction_end ht hs, setLevel_output hm]
  rfl

theorem exec_relHighEnds {s : State} (hp : s.phase = Phase.relHigh) (ht : s.timer = 0) (hs : s.env.slack = 0) :
    exec s.fetched s = .next s.relHighEnded := by
  rw [exec_fetched_relHigh hp]
  exact delayAction_end ht hs

theorem exec_samples {s : State} (hp : s.phase = Phase.bitDelay) (ht : s.timer = 0) (hs : s.env.slack = 0) :
    exec s.fetched s = .next s.sampleBit := by
  rw [exec_fetched_bitDelay hp]
  exact delayAction_end ht hs

theorem exec_begins {s : State} (hp : s.phase = Phase.idle) (hstart : s.startNow = true) (hm : s.pinMode = .output) :
    exec s.fetched s = .next s.begun := by
  rw [State.fetched_start hp hstart]
  show execStart s = _
  rw [execStart, if_pos hp, beginTransaction_output hm]
  rfl

theorem exec_rest {s : State} (hp : s.phase = Phase.idle) (hstart : s.startNow = false) : exec s.fetched s = .next s := by
  rw [State.fetched_idle hp hstart]
  show execIdle s = _
  simp [execIdle, hstart]

/-- Each case of `Acts` is what the machine executes. -/
theorem exec_of_acts {s t : State} (h : Acts s t) : exec s.fetched s = .next t := by
  cases h with
  | rest hp hstart => exact exec_rest hp hstart
  | begins hp hstart hm => exact exec_begins hp hstart hm
  | delayRuns hp ht => exact exec_delayRuns hp ht
  | delaySlack hp ht hs => exact exec_delaySlack hp ht hs
  | reqLowEnds hp ht hs hm => exact exec_reqLowEnds hp ht hs hm
  | relHighEnds hp ht hs => exact exec_relHighEnds hp ht hs
  | samples hp ht hs => exact exec_samples hp ht hs
  | waitSlack g m hw hs => rw [State.fetched_wait hw, exec_wait hw, waitAction, if_pos hs]; rfl
  | exhausts g m hw hs hr =>
    rw [State.fetched_wait hw, exec_wait hw, waitAction, if_neg (not_not_intro hs), if_pos hr]
  | pollMatches g m hw hs hr hl =>
    rw [State.fetched_wait hw, exec_wait hw, waitAction, if_neg (not_not_intro hs), if_neg hr, if_pos hl]; rfl
  | mismatches g m hw hs hr hl =>
    rw [State.fetched_wait hw, exec_wait hw, waitAction, if_neg (not_not_intro hs), if_neg hr, if_neg hl]; rfl
  | validates hp => rw [State.fetched_of_busy (by rw [hp]; decide), hp]; rfl
  | restores hp => rw [State.fetched_of_busy (by rw [hp]; decide), hp]; rfl

/-- A wait phase always goes on. -/
theorem acts_of_wait {s : State} {g : Level} {m : BitVec 8} (hw : waitOperands s.params s.phase = some (g, m)) :
    ∃ t, Acts s t := by
  by_cases hs : s.env.slack = 0
  · by_cases hr : s.retry = m
    · exact ⟨_, .exhausts g m hw hs hr⟩
    · by_cases hl : s.line = g
      · exact ⟨_, .pollMatches g m hw hs hr hl⟩
      · exact ⟨_, .mismatches g m hw hs hr hl⟩
  · exact ⟨_, .waitSlack g m hw hs⟩

/-- A delay phase goes on, unless it is REQ_LOW with the pin in Input mode (R94, R130). -/
theorem acts_of_delay {s : State} (hp : s.phase = Phase.reqLow ∨ s.phase = Phase.relHigh ∨ s.phase = Phase.bitDelay)
    (hm : s.phase = Phase.reqLow → s.pinMode = .output) : ∃ t, Acts s t := by
  by_cases ht : s.timer = 0
  · by_cases hs : s.env.slack = 0
    · rcases hp with hp | hp | hp
      · exact ⟨_, .reqLowEnds hp ht hs (hm hp)⟩
      · exact ⟨_, .relHighEnds hp ht hs⟩
      · exact ⟨_, .samples hp ht hs⟩
    · exact ⟨_, .delaySlack hp ht hs⟩
  · exact ⟨_, .delayRuns hp ht⟩

/-- The action goes on in every phase that is not reserved, unless IDLE or REQ_LOW stands with the pin in Input mode. -/
theorem acts_exists {s : State} (hcode : s.phase.toNat < 11)
    (hm : s.phase = Phase.idle ∨ s.phase = Phase.reqLow → s.pinMode = .output) : ∃ t, Acts s t := by
  rcases phase_cases s.params s.phase with hp | hp | ⟨g, m, hw⟩ | hp | hp | hp
  · cases hstart : s.startNow with
    | false => exact ⟨_, .rest hp hstart⟩
    | true => exact ⟨_, .begins hp hstart (hm (.inl hp))⟩
  · exact acts_of_delay hp fun h => hm (.inr h)
  · exact acts_of_wait hw
  · exact ⟨_, .validates hp⟩
  · exact ⟨_, .restores hp⟩
  · omega

/-- In Input mode IDLE with `start` and the end of REQ_LOW are refused (R94; log 8). -/
theorem exec_refused {s : State} (hm : s.pinMode = .input) (hp : s.phase = Phase.idle ∨ s.phase = Phase.reqLow) :
    (∃ t, Acts s t) ∨ exec s.fetched s = .refused .setLevelInInputMode := by
  rcases hp with hp | hp
  · cases hstart : s.startNow with
    | false => exact .inl ⟨_, .rest hp hstart⟩
    | true =>
      rw [State.fetched_start hp hstart]
      show _ ∨ execStart s = _
      rw [execStart, if_pos hp, beginTransaction_input hm]
      exact .inr rfl
  · by_cases ht : s.timer = 0
    · by_cases hs : s.env.slack = 0
      · rw [exec_fetched_reqLow hp, execReqLow, delayAction_end ht hs, setLevel_input hm]
        exact .inr rfl
      · exact .inl ⟨_, .delaySlack (.inl hp) ht hs⟩
    · exact .inl ⟨_, .delayRuns (.inl hp) ht⟩

/-- All that can come of an action: it goes on, or it is refused in Input mode, or its phase is reserved. -/
theorem exec_fetched_cases (s : State) :
    (∃ t, Acts s t) ∨ (s.phase.toNat < 11 ∧ exec s.fetched s = .refused .setLevelInInputMode) ∨
      (11 ≤ s.phase.toNat ∧ exec s.fetched s = .fault (.reservedPhase s.phase)) := by
  by_cases hcode : s.phase.toNat < 11
  · by_cases hp : s.phase = Phase.idle ∨ s.phase = Phase.reqLow
    · rcases s.pinMode_cases with hm | hm
      · exact .inl (acts_exists hcode fun _ => hm)
      · rcases exec_refused hm hp with h | h
        · exact .inl h
        · exact .inr (.inl ⟨hcode, h⟩)
    · exact .inl (acts_exists hcode fun h => absurd h hp)
  · exact .inr (.inr ⟨by omega, exec_reserved (by omega)⟩)

/-- Without an action, the phase alone says what stops the machine. -/
theorem exec_fetched_of_not_acts {s : State} (h : ∀ t, ¬Acts s t) :
    exec s.fetched s =
      if s.phase.toNat < 11 then .refused .setLevelInInputMode else .fault (.reservedPhase s.phase) := by
  rcases exec_fetched_cases s with ⟨t, ht⟩ | ⟨hcode, h'⟩ | ⟨hcode, h'⟩
  · exact absurd ht (h t)
  · rw [h', if_pos hcode]
  · rw [h', if_neg (by omega)]

/-- What the machine executes is one of the cases of `Acts`. -/
theorem exec_fetched_eq_next {s t : State} : exec s.fetched s = .next t ↔ Acts s t := by
  refine ⟨fun h => ?_, exec_of_acts⟩
  rcases exec_fetched_cases s with ⟨u, hu⟩ | ⟨-, h'⟩ | ⟨-, h'⟩
  · have htu : t = u := Host.Outcome.next.inj (h.symm.trans (exec_of_acts hu))
    rwa [htu]
  · cases h.symm.trans h'
  · cases h.symm.trans h'

end Sys2Proof.Machine
end

section
/-! The phases, one action each: what an action leaves unchanged, its successors, and the statements about single phases. -/

namespace Sys2Proof.Machine

/-- An action passes no tick and touches neither the parameters, the host nor the model's result (R130). -/
theorem Acts.frame {s t : State} (h : Acts s t) :
    t.env.tick = s.env.tick ∧ t.env.inputs = s.env.inputs ∧ t.params = s.params ∧ t.task = s.task ∧ t.ret = s.ret := by
  cases h with
  | samples => rcases s.sampleBit_cases with ⟨_, h⟩ | ⟨_, _, h⟩ | ⟨_, _, h⟩ <;> rw [h] <;> exact ⟨rfl, rfl, rfl, rfl, rfl⟩
  | exhausts => unfold State.exhausted State.endWaitFailed; (repeat' split) <;> exact ⟨rfl, rfl, rfl, rfl, rfl⟩
  | pollMatches => unfold State.matched; (repeat' split) <;> exact ⟨rfl, rfl, rfl, rfl, rfl⟩
  | validates => simp
  | _ => exact ⟨rfl, rfl, rfl, rfl, rfl⟩

/-- Where a matching poll leads, for each of the five wait phases (R103). -/
theorem State.matched_cases {s : State} {g : Level} {m : BitVec 8} (hw : waitOperands s.params s.phase = some (g, m)) :
    (s.phase = Phase.ackWaitLow ∧ s.matched = s.enterWait Phase.ackWaitHigh) ∨
    (s.phase = Phase.ackWaitHigh ∧ s.matched = s.enterWait Phase.bitWaitLow) ∨
    (s.phase = Phase.bitWaitLow ∧ s.matched = s.enterWait Phase.bitWaitHigh) ∨
    (s.phase = Phase.bitWaitHigh ∧ s.matched = s.enterDelay Phase.bitDelay s.params.sampleDelayUs) ∨
    (s.phase = Phase.endWaitLow ∧ s.matched = s.enterPhase Phase.validate) := by
  rcases waitOperands_cases hw with ⟨hp, -⟩ | ⟨hp, -⟩ | ⟨hp, -⟩ | ⟨hp, -⟩ | ⟨hp, -⟩
  · exact .inl ⟨hp, State.matched_ackWaitLow hp⟩
  · exact .inr (.inl ⟨hp, State.matched_ackWaitHigh hp⟩)
  · exact .inr (.inr (.inl ⟨hp, State.matched_bitWaitLow hp⟩))
  · exact .inr (.inr (.inr (.inl ⟨hp, State.matched_bitWaitHigh hp⟩)))
  · exact .inr (.inr (.inr (.inr ⟨hp, State.matched_endWaitLow hp⟩)))

/-- Where a wait at its limit leads: to RESTORE with `Timeout`, or from a soft frame end to VALIDATE (R101, R139). -/
theorem State.exhausted_eq (s : State) :
    s.exhausted =
      if s.phase = Phase.endWaitLow ∧ s.params.frameEndStrict = false then s.enterPhase Phase.validate
      else s.raise .timeout := by
  by_cases hp : s.phase = Phase.endWaitLow
  · cases hf : s.params.frameEndStrict <;> simp [State.exhausted, State.endWaitFailed, hp, hf]
  · simp [State.exhausted, hp]

/-- An action keeps the phase or follows an edge of R122. -/
theorem Acts.phase_edge {s t : State} (h : Acts s t) : t.phase = s.phase ∨ (s.phase, t.phase) ∈ phaseEdges := by
  cases h with
  | rest | delayRuns | delaySlack | waitSlack | mismatches => exact .inl rfl
  | begins hp | reqLowEnds hp | relHighEnds hp | validates hp | restores hp =>
    right
    simp +decide [hp, State.begun, State.reqLowEnded, State.relHighEnded]
  | samples hp =>
    right
    rcases s.sampleBit_cases with ⟨_, h⟩ | ⟨_, _, h⟩ | ⟨_, _, h⟩ <;> simp +decide [h, hp]
  | exhausts g m hw =>
    right
    rw [State.exhausted_eq]
    split
    · next hp => simp +decide [hp.1]
    · rcases waitOperands_cases hw with ⟨hp, -⟩ | ⟨hp, -⟩ | ⟨hp, -⟩ | ⟨hp, -⟩ | ⟨hp, -⟩ <;> simp +decide [hp]
  | pollMatches g m hw =>
    right
    rcases State.matched_cases (s := s.countPoll) hw with ⟨hp, h⟩ | ⟨hp, h⟩ | ⟨hp, h⟩ | ⟨hp, h⟩ | ⟨hp, h⟩ <;>
      simp +decide [h, ← s.countPoll_phase, hp, -State.countPoll_phase]

/-- Settles O18, by the cases of an action. -/
theorem phasesFollowTheSuccessorRelation : Obligations.PhasesFollowTheSuccessorRelation := by
  intro s t i hdecode hexec
  rw [decode_fetchWord_fetched] at hdecode
  cases hdecode
  exact (exec_fetched_eq_next.mp hexec).phase_edge

/-! ## Rest, Begin and the delays -/

/-- Settles O19: Begin through START, and through the IDLE action. -/
theorem startBeginsATransaction : Obligations.StartBeginsATransaction := by
  intro s hm
  refine ⟨fun hp => ?_, fun hstart => ?_⟩
  · show execStart s = _
    rw [execStart, if_pos hp, beginTransaction_output hm]
    rfl
  · show execIdle s = _
    rw [execIdle, if_pos hstart, beginTransaction_output hm]
    rfl

/-- Settles O20. -/
theorem startIgnoredOrRefused : Obligations.StartIgnoredOrRefused := by
  intro s
  refine ⟨fun hstart => ?_, fun hp => ?_, fun hm hp => ?_, fun hm hstart => ?_⟩
  · show execIdle s = _
    simp [execIdle, hstart]
  · show execStart s = _
    rw [execStart, if_neg hp]
  · show execStart s = _
    rw [execStart, if_pos hp, beginTransaction_input hm]
  · show execIdle s = _
    rw [execIdle, if_pos hstart, beginTransaction_input hm]

theorem delayAction_runs {onEnd : State → Result} {s : State} (ht : s.timer ≠ 0) : delayAction onEnd s = .next s := by
  rw [delayAction, if_pos ht]

theorem delayAction_slack {onEnd : State → Result} {s : State} (ht : s.timer = 0) (hs : s.env.slack ≠ 0) :
    delayAction onEnd s = .next s.spendSlack := by
  rw [delayAction, if_neg (not_not_intro ht), if_pos hs]
  rfl

/-- Settles O21: the three delay phases are one shared action. -/
theorem delayPhasesBlock : Obligations.DelayPhasesBlock := by
  intro s i hi
  rcases hi with rfl | rfl | rfl
  · exact ⟨(delayAction_runs · : _ → execReqLow s = _), (delayAction_slack · · : _ → _ → execReqLow s = _)⟩
  · exact ⟨(delayAction_runs · : _ → execRelHigh s = _), (delayAction_slack · · : _ → _ → execRelHigh s = _)⟩
  · exact ⟨(delayAction_runs · : _ → execBitDelay s = _), (delayAction_slack · · : _ → _ → execBitDelay s = _)⟩

/-- Settles O22: the end of the request pulse, in the two pin modes. -/
theorem reqLowEndsDrivingHigh : Obligations.ReqLowEndsDrivingHigh := by
  intro s ht hs
  refine ⟨fun hm => ?_, fun hm => ?_⟩ <;> show execReqLow s = _ <;> rw [execReqLow, delayAction_end ht hs]
  · rw [setLevel_output hm]
    rfl
  · rw [setLevel_input hm]
    rfl

/-- Settles O23. -/
theorem relHighReleasesTheLine : Obligations.RelHighReleasesTheLine := by
  intro s ht hs
  show execRelHigh s = _
  rw [execRelHigh, delayAction_end ht hs]
  rfl

/-! ## The waits -/

theorem waitAction_match {g : Level} {m : BitVec 8} {f e : State → State} {s : State} (hs : s.env.slack = 0)
    (hr : s.retry ≠ m) (hl : s.line = g) : waitAction g m f e s = .next (f s.countPoll) := by
  rw [waitAction, if_neg (not_not_intro hs), if_neg hr, if_pos hl]
  rfl

/-- Settles O24: each row of R103 on a match. -/
theorem matchingPollGoesOn : Obligations.MatchingPollGoesOn := by
  intro s hs
  refine ⟨fun hr hl => ?_, fun hr hl => ?_, fun hr hl => ?_, fun hr hl => ?_, fun hr hl => ?_⟩
  · exact (waitAction_match hs hr hl : execAckWaitLow s = _)
  · exact (waitAction_match hs hr hl : execAckWaitHigh s = _)
  · exact (waitAction_match hs hr hl : execBitWaitLow s = _)
  · exact (waitAction_match hs hr hl : execBitWaitHigh s = _)
  · exact (waitAction_match hs hr hl : execEndWaitLow s = _)

/-- Settles O25: the mismatching poll of the one wait action. -/
theorem mismatchingPollBlocks : Obligations.MismatchingPollBlocks := by
  intro s g m hw hs hr hl
  rw [← State.fetched_wait hw]
  exact exec_of_acts (.mismatches g m hw hs hr hl)

/-- Settles O26: the one wait action at its limit. -/
theorem exhaustedWaitRaisesTimeout : Obligations.ExhaustedWaitRaisesTimeout := by
  intro s g m hw hs hr
  rw [← State.fetched_wait hw, exec_of_acts (.exhausts g m hw hs hr), State.exhausted_eq]
  rfl

/-! ## The sample, VALIDATE, RESTORE -/

theorem nextByteIdx_eq {j : Fin 5} (h : j.val + 1 < 5) : nextByteIdx j = ⟨j.val + 1, h⟩ := by
  apply Fin.ext
  rw [nextByteIdx_val, Nat.min_eq_left (by omega)]

/-- Settles O27, by the three ends of BIT_DELAY. -/
theorem bitDelaySamplesAndAssembles : Obligations.BitDelaySamplesAndAssembles := by
  intro s ht hs
  have hexec : exec .bitDelay s = .next s.sampleBit := (delayAction_end ht hs : execBitDelay s = _)
  rw [hexec]
  refine ⟨fun hbit => ?_, fun hbit hbyte => ?_, fun hbit hbyte => ?_⟩
  · rw [State.sampleBit, if_pos hbit]
    rfl
  · have hne : s.byteIdx ≠ 4 := by
      intro h
      rw [h] at hbyte
      exact absurd hbyte (by decide)
    rw [State.sampleBit, if_neg (not_not_intro hbit), if_pos hne, ← nextByteIdx_eq hbyte]
    rfl
  · rw [State.sampleBit, if_neg (not_not_intro hbit), if_neg (not_not_intro hbyte)]
    simp only [State.storeByte, hbyte]
    rfl

theorem checksum_toNat (f : Frame) :
    (checksum f).toNat = (f.b0.toNat + f.b1.toNat + f.b2.toNat + f.b3.toNat) % 256 := by
  simp only [checksum, BitVec.toNat_add]
  omega

/-- A frame is valid when its fifth byte is the sum of the first four modulo 256 (R151). -/
theorem frameValid_iff (f : Frame) :
    frameValid f = true ↔ (f.b0.toNat + f.b1.toNat + f.b2.toNat + f.b3.toNat) % 256 = f.b4.toNat := by
  rw [frameValid, beq_iff_eq, ← BitVec.toNat_inj, checksum_toNat]

/-- Settles O28, by the validator's two answers. -/
theorem validatePublishesOrRaises : Obligations.ValidatePublishesOrRaises := by
  intro s
  show Host.Outcome.next (s.validateRegs.enterPhase Phase.restore) = _
  rw [State.validateRegs_eq]
  simp only [frameValid_iff]
  split <;> rfl

/-- Settles O29, by the definition of RESTORE. -/
theorem restorePublishesAndRests : Obligations.RestorePublishesAndRests := fun _ => rfl

/-- Settles O50: the lone validator and the phase give the same answer. -/
theorem validateFrameAnswersByTheChecksum : Obligations.ValidateFrameAnswersByTheChecksum := by
  intro f s
  refine ⟨?_, _, validatePublishesOrRaises { s with frame := f }, fun h => ?_, fun h => ?_⟩
  · show execValidateFrame f s = _
    rcases validateFrame_cases f with ⟨hv, h⟩ | ⟨hv, h⟩
    · rw [execValidateFrame, h, if_pos ((frameValid_iff f).mp hv)]
      rfl
    · rw [execValidateFrame, h, if_neg (by rw [← frameValid_iff, hv]; decide)]
  · rw [if_pos h]
    exact ⟨rfl, rfl⟩
  · rw [if_neg h]
    exact ⟨rfl, rfl⟩

end Sys2Proof.Machine
end

section
/-! The loop of zero-time actions (R130): what it keeps, that it stops (R144), and what a whole tick does with it. -/

namespace Sys2Proof.Machine

/-! ## The loop -/

theorem runActions_succ_fetched (n : Nat) (s : State) :
    runActions (n + 1) s = andThen (exec s.fetched s) fun t =>
      if t.phase = s.phase ∨ t.phase = Phase.idle then .next t else runActions n t :=
  runActions_succ n s

/-- An action after which the tick rests ends the loop. -/
theorem runActions_rests {s t : State} (n : Nat) (h : Acts s t) (hrest : t.phase = s.phase ∨ t.phase = Phase.idle) :
    runActions (n + 1) s = .next t := by
  rw [runActions_succ_fetched, exec_of_acts h, andThen_next, if_pos hrest]

/-- An action that goes on leaves the rest of the loop to the next state. -/
theorem runActions_goesOn {s t : State} (n : Nat) (h : Acts s t) (hphase : t.phase ≠ s.phase) (hidle : t.phase ≠ Phase.idle) :
    runActions (n + 1) s = runActions n t := by
  rw [runActions_succ_fetched, exec_of_acts h, andThen_next, if_neg (not_or.mpr ⟨hphase, hidle⟩)]

/-- What every action keeps holds before the loop's last action, after which the tick rests. -/
theorem runActions_last {P : State → Prop} (hP : ∀ s t, P s → Acts s t → P t) {n : Nat} {s t : State} (hs : P s)
    (h : runActions n s = .next t) : ∃ u, P u ∧ Acts u t ∧ (t.phase = u.phase ∨ t.phase = Phase.idle) := by
  induction n generalizing s with
  | zero => cases h
  | succ n ih =>
    rw [runActions_succ_fetched] at h
    obtain ⟨u, hu, hrest⟩ := andThen_eq_next h
    have hacts := exec_fetched_eq_next.mp hu
    split at hrest
    · next hstop =>
      cases hrest
      exact ⟨s, hs, hacts, hstop⟩
    · exact ih (hP s u hs hacts) hrest

/-- What every action keeps, the loop keeps. -/
theorem runActions_keeps {P : State → Prop} (hP : ∀ s t, P s → Acts s t → P t) {n : Nat} {s t : State} (hs : P s)
    (h : runActions n s = .next t) : P t := by
  obtain ⟨u, hu, hacts, -⟩ := runActions_last hP hs h
  exact hP u t hu hacts

/-- The loop passes no tick and touches neither the parameters, the host nor the model's result. -/
theorem runActions_frame {n : Nat} {s t : State} (h : runActions n s = .next t) :
    t.env.tick = s.env.tick ∧ t.env.inputs = s.env.inputs ∧ t.params = s.params ∧ t.task = s.task ∧ t.ret = s.ret := by
  refine runActions_keeps (P := fun u => u.env.tick = s.env.tick ∧ u.env.inputs = s.env.inputs ∧ u.params = s.params ∧
    u.task = s.task ∧ u.ret = s.ret) ?_ ⟨rfl, rfl, rfl, rfl, rfl⟩ h
  rintro u v ⟨htick, hinputs, hparams, htask, hret⟩ huv
  obtain ⟨htick', hinputs', hparams', htask', hret'⟩ := huv.frame
  exact ⟨htick'.trans htick, hinputs'.trans hinputs, hparams'.trans hparams, htask'.trans htask, hret'.trans hret⟩

/-! ## The loop stops (R144) -/

/-- How many actions of one tick can still come. A wait that has just been matched leaves the line at a level at which
the next wait for the other level cannot match in the same tick. -/
def State.actionsLeft (s : State) : Nat :=
  if s.phase = Phase.idle then 6
  else if s.phase = Phase.reqLow then 5
  else if s.phase = Phase.relHigh then 4
  else if s.phase = Phase.ackWaitLow then 3
  else if s.phase = Phase.ackWaitHigh then (if s.line = .low then 2 else 3)
  else if s.phase = Phase.bitWaitLow then (if s.line = .low then 3 else 2)
  else if s.phase = Phase.bitWaitHigh then (if s.line = .low then 2 else 5)
  else if s.phase = Phase.bitDelay then 4
  else if s.phase = Phase.endWaitLow then 3
  else if s.phase = Phase.validate then 2
  else 1

theorem State.actionsLeft_pos (s : State) : 0 < s.actionsLeft := by
  unfold State.actionsLeft
  repeat' split
  all_goals decide

theorem State.actionsLeft_le_six (s : State) : s.actionsLeft ≤ 6 := by
  unfold State.actionsLeft
  repeat' split
  all_goals decide

theorem State.actionsLeft_restore {s : State} (hp : s.phase = Phase.restore) : s.actionsLeft = 1 := by
  simp +decide [State.actionsLeft, hp]

/-- A wait phase has at least two actions left, its own and RESTORE's. -/
theorem State.two_le_actionsLeft_of_wait {s : State} {g : Level} {m : BitVec 8}
    (hw : waitOperands s.params s.phase = some (g, m)) : 2 ≤ s.actionsLeft := by
  rcases waitOperands_cases hw with ⟨hp, -⟩ | ⟨hp, -⟩ | ⟨hp, -⟩ | ⟨hp, -⟩ | ⟨hp, -⟩ <;>
    simp +decide only [State.actionsLeft, hp, if_true, if_false] <;> (repeat' split) <;> decide

/-- The line shows the same level before and after an action that changes neither the pin nor the ports. -/
theorem State.line_congr {s t : State} (hm : t.pinMode = s.pinMode) (hl : t.pinLevel = s.pinLevel)
    (htick : t.env.tick = s.env.tick) (hinputs : t.env.inputs = s.env.inputs) : t.line = s.line := by
  simp only [State.line, hm, hl, State.inputsNow_congr htick hinputs]

theorem State.line_matched (s : State) : s.countPoll.matched.line = s.line := by
  unfold State.matched
  repeat' split
  all_goals exact State.line_congr rfl rfl rfl rfl

/-- A matched wait leaves fewer actions (R144). -/
theorem State.actionsLeft_matched_lt {s : State} {g : Level} {m : BitVec 8}
    (hw : waitOperands s.params s.phase = some (g, m)) (hl : s.line = g) :
    s.countPoll.matched.actionsLeft < s.actionsLeft := by
  have hline := s.line_matched
  rcases waitOperands_cases hw with ⟨hp, rfl, -⟩ | ⟨hp, rfl, -⟩ | ⟨hp, rfl, -⟩ | ⟨hp, rfl, -⟩ | ⟨hp, rfl, -⟩
  · have hm := State.matched_ackWaitLow (s := s.countPoll) hp
    have hphase : s.countPoll.matched.phase = Phase.ackWaitHigh := by rw [hm]; rfl
    simp +decide [State.actionsLeft, hp, hphase, hline, hl]
  · have hm := State.matched_ackWaitHigh (s := s.countPoll) hp
    have hphase : s.countPoll.matched.phase = Phase.bitWaitLow := by rw [hm]; rfl
    simp +decide [State.actionsLeft, hp, hphase, hline, hl]
  · have hm := State.matched_bitWaitLow (s := s.countPoll) hp
    have hphase : s.countPoll.matched.phase = Phase.bitWaitHigh := by rw [hm]; rfl
    simp +decide [State.actionsLeft, hp, hphase, hline, hl]
  · have hm := State.matched_bitWaitHigh (s := s.countPoll) hp
    have hphase : s.countPoll.matched.phase = Phase.bitDelay := by rw [hm]; rfl
    simp +decide [State.actionsLeft, hp, hphase, hl]
  · have hm := State.matched_endWaitLow (s := s.countPoll) hp
    have hphase : s.countPoll.matched.phase = Phase.validate := by rw [hm]; rfl
    simp +decide [State.actionsLeft, hp, hphase]

/-- A wait at its limit leaves fewer actions (R144). -/
theorem State.actionsLeft_exhausted_lt {s : State} {g : Level} {m : BitVec 8}
    (hw : waitOperands s.params s.phase = some (g, m)) : s.exhausted.actionsLeft < s.actionsLeft := by
  rw [State.exhausted_eq]
  split
  · next hsoft => simp +decide [State.actionsLeft, hsoft.1]
  · have htwo := State.two_le_actionsLeft_of_wait hw
    have hone : (s.raise .timeout).actionsLeft = 1 := State.actionsLeft_restore rfl
    omega

/-- The sample leaves fewer actions (R144). -/
theorem State.actionsLeft_sampleBit_lt {s : State} (hp : s.phase = Phase.bitDelay) :
    s.sampleBit.actionsLeft < s.actionsLeft := by
  have hfour : s.actionsLeft = 4 := by simp +decide [State.actionsLeft, hp]
  have hthree : s.sampleBit.actionsLeft ≤ 3 := by
    rcases s.sampleBit_cases with ⟨_, h⟩ | ⟨_, _, h⟩ | ⟨_, _, h⟩ <;> rw [h] <;> simp +decide [State.actionsLeft] <;>
      split <;> decide
  omega

/-- An action rests the tick or leaves fewer actions to come (R144). -/
theorem Acts.actionsLeft_lt {s t : State} (h : Acts s t) :
    (t.phase = s.phase ∨ t.phase = Phase.idle) ∨ t.actionsLeft < s.actionsLeft := by
  cases h with
  | rest | delayRuns | delaySlack | waitSlack | mismatches => exact .inl (.inl rfl)
  | restores => exact .inl (.inr rfl)
  | begins hp | reqLowEnds hp | relHighEnds hp | validates hp =>
    right
    simp +decide [State.actionsLeft, hp, State.begun, State.reqLowEnded, State.relHighEnded]
  | samples hp => exact .inr (State.actionsLeft_sampleBit_lt hp)
  | exhausts g m hw => exact .inr (State.actionsLeft_exhausted_lt hw)
  | pollMatches g m hw _ _ hl => exact .inr (State.actionsLeft_matched_lt hw hl)

/-- With an allowance for the actions left, the loop ends before the allowance does, and more of it changes nothing. -/
theorem runActions_stable (m n : Nat) (s : State) (hleft : s.actionsLeft ≤ m) :
    runActions (m + n) s = runActions m s ∧ runActions m s ≠ .fault .actionBoundExceeded := by
  induction m generalizing s with
  | zero => exact absurd s.actionsLeft_pos (by omega)
  | succ m ih =>
    rw [Nat.add_right_comm, runActions_succ_fetched, runActions_succ_fetched]
    rcases exec_fetched_cases s with ⟨t, ht⟩ | ⟨-, h⟩ | ⟨-, h⟩
    · rw [exec_of_acts ht, andThen_next, andThen_next]
      by_cases hrest : t.phase = s.phase ∨ t.phase = Phase.idle
      · rw [if_pos hrest, if_pos hrest]
        exact ⟨rfl, nofun⟩
      · rw [if_neg hrest, if_neg hrest]
        have hlt := ht.actionsLeft_lt.resolve_left hrest
        exact ih t (by omega)
    · rw [h]
      exact ⟨rfl, nofun⟩
    · rw [h]
      exact ⟨rfl, nofun⟩

/-- Settles O17, by the count of the actions left. -/
theorem atMostSixActionsInATick : Obligations.AtMostSixActionsInATick := fun s =>
  ⟨fun n => (runActions_stable 6 n s s.actionsLeft_le_six).1, (runActions_stable 6 0 s s.actionsLeft_le_six).2⟩

/-- The whole loop of a tick. -/
def settle (s : State) : Result := runActions maxActions s

theorem settle_rests {s t : State} (h : Acts s t) (hrest : t.phase = s.phase ∨ t.phase = Phase.idle) : settle s = .next t :=
  runActions_rests 5 h hrest

/-- After an action that goes on the loop is the loop of the next state: the allowance is never what ends it. -/
theorem settle_goesOn {s t : State} (h : Acts s t) (hphase : t.phase ≠ s.phase) (hidle : t.phase ≠ Phase.idle) :
    settle s = settle t :=
  calc runActions 6 s
      _ = runActions 7 s := (runActions_stable 6 1 s s.actionsLeft_le_six).1.symm
      _ = runActions 6 t := runActions_goesOn 6 h hphase hidle

/-- Where every state that meets a predicate kept by the actions that go on has an action, the loop goes on to a state that
rests. -/
theorem settle_of_progress {P : State → Prop}
    (hP : ∀ s t, P s → Acts s t → t.phase ≠ s.phase → t.phase ≠ Phase.idle → P t) (hex : ∀ s, P s → ∃ t, Acts s t)
    {s : State} (hs : P s) : ∃ u t, settle s = .next t ∧ P u ∧ Acts u t ∧ (t.phase = u.phase ∨ t.phase = Phase.idle) := by
  induction hn : s.actionsLeft using Nat.strongRecOn generalizing s with
  | _ n ih =>
    obtain ⟨t, ht⟩ := hex s hs
    by_cases hrest : t.phase = s.phase ∨ t.phase = Phase.idle
    · exact ⟨s, t, settle_rests ht hrest, hs, ht, hrest⟩
    · obtain ⟨hphase, hidle⟩ := not_or.mp hrest
      have hlt := ht.actionsLeft_lt.resolve_left hrest
      rw [settle_goesOn ht hphase hidle]
      exact ih t.actionsLeft (by omega) (hP s t hs ht hphase hidle) rfl

/-! ## A whole tick -/

/-- The tick without reset: the loop, the host, the end of the tick (R130, R160). -/
theorem step_noReset {s : State} (h : s.inputsNow.rst = false) :
    step s = andThen (settle s.beginTick) fun t => .next (t.taskAct s.taskRaises).endTick := by
  rw [tick_noReset h, tickBlock, andThen_assoc]
  rfl

/-- What a tick can do: reset, or the loop with the host's part. -/
theorem step_cases {s t : State} (h : step s = .next t) :
    (s.inputsNow.rst = true ∧ t = s.resetBlock.endTick) ∨
    (s.inputsNow.rst = false ∧ ∃ u, settle s.beginTick = .next u ∧ t = (u.taskAct s.taskRaises).endTick) := by
  cases hr : s.inputsNow.rst with
  | true =>
    rw [tick_reset hr] at h
    exact .inl ⟨rfl, (Host.Outcome.next.inj h).symm⟩
  | false =>
    rw [step_noReset hr] at h
    obtain ⟨u, hu, ht⟩ := andThen_eq_next h
    exact .inr ⟨rfl, u, hu, (Host.Outcome.next.inj ht).symm⟩

/-- The frame of the loop of a tick, from the state before its count. -/
theorem settle_frame {s u : State} (h : settle s.beginTick = .next u) :
    u.env.tick = s.env.tick ∧ u.env.inputs = s.env.inputs ∧ u.params = s.params ∧ u.task = s.task ∧ u.ret = s.ret := by
  simpa using runActions_frame h

/-- Settles O10: the loop passes no tick, the end of the tick passes one, and reset keeps what is asked. -/
theorem tickTakesOneTickAndKeepsParameters : Obligations.TickTakesOneTickAndKeepsParameters := by
  intro s t h
  rcases step_cases h with ⟨-, rfl⟩ | ⟨-, u, hu, rfl⟩
  · exact ⟨rfl, rfl, rfl, rfl⟩
  · obtain ⟨htick, hinputs, hparams, -, hret⟩ := settle_frame hu
    simp [htick, hinputs, hparams, hret]

/-- Settles O8: the loop's first turn, with the fetched instruction named. -/
theorem tickRunsTheFetchedInstruction : Obligations.TickRunsTheFetchedInstruction := by
  intro s i hr hdecode
  rw [decode_fetchWord_fetched] at hdecode
  cases hdecode
  rw [step_noReset hr, settle, maxActions, runActions_succ_fetched]
  rfl

/-- Settles O9: the delay phases are the ones that count, and the fetch is the definition. -/
theorem fetchFollowsPhaseAndStart : Obligations.FetchFollowsPhaseAndStart := by
  intro s
  refine ⟨?_, rfl, State.startNow_notSpawned⟩
  simp only [State.beginTick, delayOperand_isSome_iff]
  split <;> rfl

theorem State.beginTick_of_not_delay {s : State}
    (hp : ¬(s.phase = Phase.reqLow ∨ s.phase = Phase.relHigh ∨ s.phase = Phase.bitDelay)) : s.beginTick = s := by
  simp only [State.beginTick, delayOperand_isSome_iff, if_neg hp]

theorem State.beginTick_of_idle {s : State} (hp : s.phase = Phase.idle) : s.beginTick = s :=
  State.beginTick_of_not_delay (by rw [hp]; decide)

/-- The waits count nothing when a tick passes. -/
theorem State.beginTick_of_wait {s : State} {g : Level} {m : BitVec 8} (hw : waitOperands s.params s.phase = some (g, m)) :
    s.beginTick = s := by
  refine State.beginTick_of_not_delay ?_
  rcases waitOperands_cases hw with ⟨hp, -⟩ | ⟨hp, -⟩ | ⟨hp, -⟩ | ⟨hp, -⟩ | ⟨hp, -⟩ <;> rw [hp] <;> decide

/-- An idle block that sees no `start` rests. -/
theorem settle_idle {s : State} (hp : s.phase = Phase.idle) (hstart : s.startNow = false) : settle s.beginTick = .next s := by
  rw [State.beginTick_of_idle hp]
  exact settle_rests (.rest hp hstart) (.inl rfl)

theorem State.taskRaises_notSpawned {s : State} (h : s.task.mode = .notSpawned) : s.taskRaises = false := by
  simp [State.taskRaises, h]

/-- Without reset, and where no task owns the block, a tick is its loop and the end of the tick. -/
theorem step_notSpawned {s : State} (hr : s.inputsNow.rst = false) (hm : s.task.mode = .notSpawned) :
    step s = andThen (settle s.beginTick) fun t => .next t.endTick := by
  rw [step_noReset hr, State.taskRaises_notSpawned hm]
  cases hsettle : settle s.beginTick with
  | next t =>
    obtain ⟨-, -, -, htask, -⟩ := settle_frame hsettle
    rw [andThen_next, andThen_next, State.taskAct_notSpawned (by rw [htask]; exact hm)]
  | fault | refused => rfl

/-- Settles O12. -/
theorem idleWithoutStartChangesNothing : Obligations.IdleWithoutStartChangesNothing := by
  intro s hp hm hr hstart
  rw [step_notSpawned hr hm, settle_idle hp (by rw [State.startNow_notSpawned hm]; exact hstart)]
  rfl

/-- Settles O7: reset takes the whole tick. -/
theorem resetInputDropsTheTransaction : Obligations.ResetInputDropsTheTransaction := fun _ hr => tick_reset hr

/-- Settles O30: the wait's limit, then RESTORE, in one loop. -/
theorem timeoutEndsTheTransactionInOneTick : Obligations.TimeoutEndsTheTransactionInOneTick := by
  intro s g m hr hm hw hstrict hs hretry
  have hraise : s.exhausted = s.raise .timeout := by
    rw [State.exhausted_eq, if_neg (by simp [hstrict])]
  have hacts : Acts s (s.raise .timeout) := hraise ▸ .exhausts g m hw hs hretry
  have hphase : (s.raise .timeout).phase ≠ s.phase := by
    rcases waitOperands_cases hw with ⟨hp, -⟩ | ⟨hp, -⟩ | ⟨hp, -⟩ | ⟨hp, -⟩ | ⟨hp, -⟩ <;> simp +decide [hp]
  rw [step_notSpawned hr hm, State.beginTick_of_wait hw, settle_goesOn hacts hphase (by simp +decide),
    settle_rests (.restores rfl) (.inr rfl)]
  rfl

end Sys2Proof.Machine
end

section
/-! The invariants of R39, kept by every tick. Inside a tick they hold in a weaker form, `MidTick`, which every action
keeps; a tick that rests has the full form back. -/

namespace Sys2Proof.Machine

/-! ## The pin and the phase inside a tick -/

/-- R39 (a) to (d) inside a tick, where VALIDATE and RESTORE may stand. -/
structure State.PinsByPhase (s : State) : Prop where
  code : s.phase.toNat ≤ 10
  busy : s.BusyByPhase
  mode : s.PinModeByPhase
  level : s.PinLevelByPhase

/-- The phases in which the block listens or ends. -/
def Listens (c : BitVec 4) : Prop := 3 ≤ c.toNat ∧ c.toNat ≤ 10

theorem listens_of_wait {p : Params} {c : BitVec 4} {g : Level} {m : BitVec 8} (hw : waitOperands p c = some (g, m)) :
    Listens c := by
  rcases waitOperands_cases hw with ⟨hp, -⟩ | ⟨hp, -⟩ | ⟨hp, -⟩ | ⟨hp, -⟩ | ⟨hp, -⟩ <;> rw [hp] <;> exact ⟨by decide, by decide⟩

theorem Listens.not_output_phase {c : BitVec 4} (h : Listens c) :
    c ≠ Phase.idle ∧ c ≠ Phase.reqLow ∧ c ≠ Phase.relHigh := by
  obtain ⟨hlow, -⟩ := h
  refine ⟨?_, ?_, ?_⟩ <;> rintro rfl <;> exact absurd hlow (by decide)

/-- A block that goes from one listening phase to another and leaves the pin and the status alone keeps to its phase. -/
theorem State.PinsByPhase.listening {s t : State} (h : s.PinsByPhase) (hs : Listens s.phase) (ht : Listens t.phase)
    (hbusy : t.busy = s.busy) (hdone : t.done = s.done) (hmode : t.pinMode = s.pinMode) (hlevel : t.pinLevel = s.pinLevel) :
    t.PinsByPhase := by
  obtain ⟨-, hbusy', hmode', hlevel'⟩ := h
  obtain ⟨hs1, hs2, hs3⟩ := hs.not_output_phase
  obtain ⟨ht1, ht2, ht3⟩ := ht.not_output_phase
  refine ⟨ht.2, ?_, ?_, ?_⟩
  · simpa [State.BusyByPhase, hbusy, hdone, hs1, ht1] using hbusy'
  · simpa [State.PinModeByPhase, hmode, hs1, hs2, hs3, ht1, ht2, ht3] using hmode'
  · simpa [State.PinLevelByPhase, hlevel, hs2, ht2] using hlevel'

/-- The registers that no sample touches. -/
theorem State.sampleBit_frame (s : State) :
    s.sampleBit.busy = s.busy ∧ s.sampleBit.done = s.done ∧ s.sampleBit.pinMode = s.pinMode ∧
      s.sampleBit.pinLevel = s.pinLevel ∧ s.sampleBit.err = s.err ∧ s.sampleBit.reading = s.reading ∧
      s.sampleBit.env = s.env := by
  rcases s.sampleBit_cases with ⟨_, h⟩ | ⟨_, _, h⟩ | ⟨_, _, h⟩ <;> rw [h] <;> exact ⟨rfl, rfl, rfl, rfl, rfl, rfl, rfl⟩

theorem State.sampleBit_phase (s : State) : s.sampleBit.phase = Phase.bitWaitLow ∨ s.sampleBit.phase = Phase.endWaitLow := by
  rcases s.sampleBit_cases with ⟨_, h⟩ | ⟨_, _, h⟩ | ⟨_, _, h⟩ <;> rw [h]
  · exact .inl rfl
  · exact .inl rfl
  · exact .inr rfl

/-- The registers that no matching poll touches. -/
theorem State.matched_frame (s : State) :
    s.matched.busy = s.busy ∧ s.matched.done = s.done ∧ s.matched.pinMode = s.pinMode ∧ s.matched.pinLevel = s.pinLevel ∧
      s.matched.err = s.err ∧ s.matched.reading = s.reading ∧ s.matched.frame = s.frame := by
  unfold State.matched
  repeat' split
  all_goals exact ⟨rfl, rfl, rfl, rfl, rfl, rfl, rfl⟩

theorem State.matched_listens {s : State} {g : Level} {m : BitVec 8} (hw : waitOperands s.params s.phase = some (g, m)) :
    Listens s.matched.phase ∧ s.matched.phase ≠ Phase.restore ∧ s.matched.phase ≠ s.phase := by
  rcases State.matched_cases hw with ⟨hp, h⟩ | ⟨hp, h⟩ | ⟨hp, h⟩ | ⟨hp, h⟩ | ⟨hp, h⟩ <;> rw [h, hp] <;>
    exact ⟨⟨by simp +decide, by simp +decide⟩, by simp +decide, by simp +decide⟩

/-- The pin and the status after a wait at its limit. -/
theorem State.exhausted_frame (s : State) :
    s.exhausted.busy = s.busy ∧ s.exhausted.done = s.done ∧ s.exhausted.pinMode = s.pinMode ∧
      s.exhausted.pinLevel = s.pinLevel ∧ s.exhausted.env = s.env ∧
      (s.exhausted.phase = Phase.validate ∨ s.exhausted.phase = Phase.restore) := by
  rw [State.exhausted_eq]
  split <;> simp

/-- A wait at its limit goes on (R101). -/
theorem State.exhausted_goesOn {s : State} {g : Level} {m : BitVec 8} (hw : waitOperands s.params s.phase = some (g, m)) :
    s.exhausted.phase ≠ s.phase ∧ s.exhausted.phase ≠ Phase.idle := by
  have hne : ∀ c, waitOperands s.params c = none → c ≠ s.phase := fun c hc h => by
    rw [h, hw] at hc
    cases hc
  obtain ⟨-, -, -, -, -, hphase⟩ := s.exhausted_frame
  rcases hphase with hc | hc <;> rw [hc] <;> exact ⟨hne _ rfl, by decide⟩

/-- Every action keeps the pin and the status to the phase. -/
theorem State.PinsByPhase.acts {s t : State} (h : s.PinsByPhase) (ha : Acts s t) : t.PinsByPhase := by
  cases ha with
  | rest | delayRuns => exact h
  | delaySlack | waitSlack | mismatches => exact ⟨h.code, h.busy, h.mode, h.level⟩
  | begins hp _ hm =>
    exact ⟨by simp +decide [State.begun], by simp +decide [State.BusyByPhase, State.begun],
      by simp [State.PinModeByPhase, State.begun, hm], by simp [State.PinLevelByPhase, State.begun]⟩
  | reqLowEnds hp _ _ hm =>
    have hbusy := h.busy
    exact ⟨by simp +decide [State.reqLowEnded], by simpa +decide [State.BusyByPhase, State.reqLowEnded, hp] using hbusy,
      by simp [State.PinModeByPhase, State.reqLowEnded, hm], by simp +decide [State.PinLevelByPhase, State.reqLowEnded]⟩
  | relHighEnds hp =>
    have hbusy := h.busy
    have hlevel := h.level
    exact ⟨by simp +decide [State.relHighEnded], by simpa +decide [State.BusyByPhase, State.relHighEnded, hp] using hbusy,
      by simp +decide [State.PinModeByPhase, State.relHighEnded],
      by simpa +decide [State.PinLevelByPhase, State.relHighEnded, hp] using hlevel⟩
  | samples hp =>
    obtain ⟨hbusy, hdone, hmode, hlevel, -⟩ := s.sampleBit_frame
    refine h.listening (by rw [hp]; exact ⟨by decide, by decide⟩) ?_ hbusy hdone hmode hlevel
    rcases s.sampleBit_phase with hc | hc <;> rw [hc] <;> exact ⟨by decide, by decide⟩
  | exhausts g m hw =>
    obtain ⟨hbusy, hdone, hmode, hlevel, -, hphase⟩ := s.exhausted_frame
    refine h.listening (listens_of_wait hw) ?_ hbusy hdone hmode hlevel
    rcases hphase with hc | hc <;> rw [hc] <;> exact ⟨by decide, by decide⟩
  | pollMatches g m hw =>
    obtain ⟨hbusy, hdone, hmode, hlevel, -⟩ := s.countPoll.matched_frame
    exact h.listening (listens_of_wait hw) (State.matched_listens (s := s.countPoll) hw).1 hbusy hdone hmode hlevel
  | validates hp =>
    exact h.listening (by rw [hp]; exact ⟨by decide, by decide⟩) ⟨by simp +decide, by simp +decide⟩ (by simp) (by simp)
      (by simp) (by simp)
  | restores => exact ⟨by simp +decide, by simp [State.BusyByPhase], by simp [State.PinModeByPhase], by simp +decide [State.PinLevelByPhase]⟩

/-! ## The result registers inside a tick -/

/-- R39 (h), (i) and R25 inside a tick: RESTORE stands with its result not yet published. -/
structure State.ResultsByPhase (s : State) : Prop where
  err : s.err ≠ .noResponse ∧ (s.err ≠ .none → s.done = true ∨ s.phase = Phase.restore)
  zero : s.reading ≠ ⟨0, 0, 0, 0⟩ → (s.done = true ∨ s.phase = Phase.restore) ∧ s.err = .none
  valid : s.done = true ∨ s.phase = Phase.restore → s.err = .none → frameValid s.frame = true ∧ s.reading = framePayload s.frame

/-- The result registers while nothing is published: no error, the reading all zero. -/
def State.NoResult (s : State) : Prop :=
  s.done = false ∧ s.phase ≠ Phase.restore ∧ s.err = .none ∧ s.reading = ⟨0, 0, 0, 0⟩

theorem State.NoResult.results {s : State} (h : s.NoResult) : s.ResultsByPhase := by
  obtain ⟨hdone, hphase, herr, hreading⟩ := h
  exact ⟨by simp [herr], by simp [hreading], by simp [hdone, hphase]⟩

/-- A running transaction that is not yet at RESTORE shows no result. -/
theorem State.ResultsByPhase.noResult {s : State} (h : s.ResultsByPhase) (hpins : s.PinsByPhase) (hidle : s.phase ≠ Phase.idle)
    (hrestore : s.phase ≠ Phase.restore) : s.NoResult := by
  obtain ⟨hbusy, hboth⟩ := hpins.busy
  have hdone : s.done = false := by
    cases hd : s.done with
    | false => rfl
    | true => exact absurd ⟨hbusy.mpr hidle, hd⟩ hboth
  refine ⟨hdone, hrestore, ?_, ?_⟩
  · refine Decidable.byContradiction fun herr => ?_
    simpa [hdone, hrestore] using h.err.2 herr
  · refine Decidable.byContradiction fun hreading => ?_
    simpa [hdone, hrestore] using h.zero hreading

/-- A timeout on its way to RESTORE. -/
theorem State.NoResult.raise {s : State} (h : s.NoResult) : (s.raise .timeout).ResultsByPhase := by
  obtain ⟨-, -, -, hreading⟩ := h
  exact ⟨by simp, by simp [hreading], by simp⟩

/-- The verdict of the checksum on its way to RESTORE (R140). -/
theorem State.NoResult.validated {s : State} (h : s.NoResult) : (s.validateRegs.enterPhase Phase.restore).ResultsByPhase := by
  obtain ⟨-, -, herr, hreading⟩ := h
  rw [State.validateRegs_eq]
  split
  · next hv => exact ⟨by simp [herr], by simp [herr], by simp [hv]⟩
  · exact ⟨by simp, by simp [hreading], by simp⟩

/-- Every action keeps the result registers to the phase. -/
theorem State.ResultsByPhase.acts {s t : State} (h : s.ResultsByPhase) (hpins : s.PinsByPhase) (ha : Acts s t) :
    t.ResultsByPhase := by
  cases ha with
  | rest | delayRuns => exact h
  | delaySlack | waitSlack | mismatches => exact ⟨h.err, h.zero, h.valid⟩
  | begins => exact State.NoResult.results ⟨rfl, by simp +decide [State.begun], rfl, rfl⟩
  | reqLowEnds hp =>
    obtain ⟨hdone, -, herr, hreading⟩ := h.noResult hpins (by rw [hp]; decide) (by rw [hp]; decide)
    exact State.NoResult.results ⟨hdone, by simp +decide [State.reqLowEnded], herr, hreading⟩
  | relHighEnds hp =>
    obtain ⟨hdone, -, herr, hreading⟩ := h.noResult hpins (by rw [hp]; decide) (by rw [hp]; decide)
    exact State.NoResult.results ⟨hdone, by simp +decide [State.relHighEnded], herr, hreading⟩
  | samples hp =>
    obtain ⟨hdone, -, herr, hreading⟩ := h.noResult hpins (by rw [hp]; decide) (by rw [hp]; decide)
    obtain ⟨-, hdone', -, -, herr', hreading', -⟩ := s.sampleBit_frame
    refine State.NoResult.results ⟨hdone'.trans hdone, ?_, herr'.trans herr, hreading'.trans hreading⟩
    rcases s.sampleBit_phase with hc | hc <;> rw [hc] <;> decide
  | exhausts g m hw =>
    have hnone := h.noResult hpins (listens_of_wait hw).not_output_phase.1 (by intro hp; rw [hp] at hw; cases hw)
    rw [State.exhausted_eq]
    split
    · exact State.NoResult.results ⟨hnone.1, by simp +decide, hnone.2.2⟩
    · exact hnone.raise
  | pollMatches g m hw =>
    obtain ⟨hdone, -, herr, hreading⟩ :=
      h.noResult hpins (listens_of_wait hw).not_output_phase.1 (by intro hp; rw [hp] at hw; cases hw)
    obtain ⟨-, hdone', -, -, herr', hreading', -⟩ := s.countPoll.matched_frame
    exact State.NoResult.results ⟨hdone'.trans hdone, (State.matched_listens (s := s.countPoll) hw).2.1, herr'.trans herr,
      hreading'.trans hreading⟩
  | validates hp => exact (h.noResult hpins (by rw [hp]; decide) (by rw [hp]; decide)).validated
  | restores hp =>
    obtain ⟨herr, hzero, hvalid⟩ := h
    exact ⟨⟨herr.1, fun _ => .inl rfl⟩, fun hr => ⟨.inl rfl, (hzero hr).2⟩, fun _ => hvalid (.inr hp)⟩

/-! ## The counters inside a tick -/

/-- R39 (e), (f) and the slack's bound inside a tick: a delay may stand at 0, a wait may be about to poll for the first
time. -/
structure State.CountersByPhase (s : State) : Prop where
  timer : ∀ n, delayOperand s.params s.phase = some n → s.timer.toNat ≤ n.toNat
  retry : ∀ g m, waitOperands s.params s.phase = some (g, m) →
    s.retry.toNat ≤ m.toNat ∧ (s.env.slack ≠ 0 → 1 ≤ s.retry.toNat)
  slack : s.SlackBounded

theorem delayOperand_of_wait {p : Params} {c : BitVec 4} {g : Level} {m : BitVec 8} (hw : waitOperands p c = some (g, m)) :
    delayOperand p c = none := by
  rcases waitOperands_cases hw with ⟨rfl, -⟩ | ⟨rfl, -⟩ | ⟨rfl, -⟩ | ⟨rfl, -⟩ | ⟨rfl, -⟩ <;> rfl

theorem waitOperands_of_delay {p : Params} {c : BitVec 4} (hp : c = Phase.reqLow ∨ c = Phase.relHigh ∨ c = Phase.bitDelay) :
    waitOperands p c = none := by
  rcases hp with rfl | rfl | rfl <;> rfl

/-- A state that is in no timed phase, or enters a wait with no poll made and no slack left. -/
theorem State.CountersByPhase.of_entered {s : State} (hdelay : delayOperand s.params s.phase = none) (hretry : s.retry = 0)
    (hslack : s.env.slack = 0) : s.CountersByPhase :=
  ⟨by simp [hdelay], by simp [hretry, hslack], by simp [State.SlackBounded, hslack]⟩

theorem State.CountersByPhase.of_untimed {s : State} (hdelay : delayOperand s.params s.phase = none)
    (hwait : waitOperands s.params s.phase = none) (hslack : s.SlackBounded) : s.CountersByPhase :=
  ⟨by simp [hdelay], by simp [hwait], hslack⟩

/-- A state that has just entered a delay phase. -/
theorem State.CountersByPhase.of_enterDelay {s : State} {c : BitVec 4} {n : BitVec 15}
    (hdelay : delayOperand s.params c = some n) : (s.enterDelay c n).CountersByPhase := by
  have hp := (delayOperand_isSome_iff s.params c).mp (by rw [hdelay]; rfl)
  refine ⟨fun n' h => ?_, fun g m h => ?_, s.slackDrawn_le⟩
  · cases hdelay.symm.trans h
    exact Nat.le_refl _
  · cases (waitOperands_of_delay hp).symm.trans h

theorem State.spendSlack_le (s : State) : s.spendSlack.env.slack ≤ s.env.slack := Nat.sub_le _ _

/-- One poll more is counted exactly, when the limit is not yet reached. -/
theorem State.countPoll_retry_toNat {s : State} {m : BitVec 8} (hle : s.retry.toNat ≤ m.toNat) (hne : s.retry ≠ m) :
    s.countPoll.retry.toNat = s.retry.toNat + 1 ∧ s.retry.toNat + 1 ≤ m.toNat := by
  have hne' : s.retry.toNat ≠ m.toNat := fun h => hne (BitVec.toNat_inj.mp h)
  have hm := m.isLt
  simp only [State.countPoll_retry, BitVec.toNat_add, BitVec.reduceToNat]
  omega

/-- Every action keeps the counters within their bounds. -/
theorem State.CountersByPhase.acts {s t : State} (h : s.CountersByPhase) (ha : Acts s t) : t.CountersByPhase := by
  cases ha with
  | rest | delayRuns => exact h
  | delaySlack hp =>
    refine ⟨h.timer, fun g m hw => ?_, Nat.le_trans s.spendSlack_le h.slack⟩
    cases (waitOperands_of_delay hp).symm.trans hw
  | waitSlack g m hw hs =>
    refine ⟨h.timer, fun g m hw => ⟨(h.retry g m hw).1, fun _ => (h.retry g m hw).2 hs⟩, Nat.le_trans s.spendSlack_le h.slack⟩
  | mismatches g m hw hs hr =>
    obtain ⟨hone, hle⟩ := State.countPoll_retry_toNat (h.retry g m hw).1 hr
    refine ⟨h.timer, fun g' m' hw' => ?_, s.slackDrawn_le⟩
    cases hw.symm.trans hw'
    show s.countPoll.retry.toNat ≤ m.toNat ∧ (_ → 1 ≤ s.countPoll.retry.toNat)
    omega
  | begins => exact State.CountersByPhase.of_enterDelay rfl
  | reqLowEnds => exact State.CountersByPhase.of_enterDelay rfl
  | relHighEnds _ _ hs => exact State.CountersByPhase.of_entered rfl rfl hs
  | samples _ _ hs =>
    rcases s.sampleBit_cases with ⟨_, h⟩ | ⟨_, _, h⟩ | ⟨_, _, h⟩ <;> rw [h] <;>
      exact State.CountersByPhase.of_entered rfl rfl hs
  | exhausts =>
    rw [State.exhausted_eq]
    split <;> exact State.CountersByPhase.of_untimed rfl rfl h.slack
  | pollMatches g m hw hs =>
    rcases State.matched_cases (s := s.countPoll) hw with ⟨hp, hm⟩ | ⟨hp, hm⟩ | ⟨hp, hm⟩ | ⟨hp, hm⟩ | ⟨hp, hm⟩ <;> rw [hm]
    · exact State.CountersByPhase.of_entered rfl rfl hs
    · exact State.CountersByPhase.of_entered rfl rfl hs
    · exact State.CountersByPhase.of_entered rfl rfl hs
    · exact State.CountersByPhase.of_enterDelay rfl
    · exact State.CountersByPhase.of_untimed rfl rfl h.slack
  | validates => exact State.CountersByPhase.of_untimed (by simp +decide [delayOperand]) (by simp +decide [waitOperands]) (by simpa [State.SlackBounded] using h.slack)
  | restores => exact State.CountersByPhase.of_untimed rfl rfl h.slack

/-! ## Inside a tick and between ticks -/

/-- The invariant inside a tick. -/
structure State.MidTick (s : State) : Prop where
  pins : s.PinsByPhase
  results : s.ResultsByPhase
  counters : s.CountersByPhase

theorem State.MidTick.acts {s t : State} (h : s.MidTick) (ha : Acts s t) : t.MidTick :=
  ⟨h.pins.acts ha, h.results.acts h.pins ha, h.counters.acts ha⟩

/-- Inside a tick there is always an action: IDLE and REQ_LOW stand in Output mode. -/
theorem State.MidTick.acts_exists {s : State} (h : s.MidTick) : ∃ t, Acts s t := by
  refine Machine.acts_exists (Nat.lt_succ_of_le h.pins.code) fun hp => h.pins.mode.mpr ?_
  rcases hp with hp | hp
  · exact .inl hp
  · exact .inr (.inl hp)

theorem timerDown_toNat {n : BitVec 15} (h : n ≠ 0) : (timerDown n).toNat = n.toNat - 1 := by
  have hpos : 1 ≤ n.toNat := Nat.one_le_iff_ne_zero.mpr fun h0 => h (BitVec.toNat_inj.mp h0)
  rw [timerDown, if_neg h]
  exact BitVec.toNat_sub_of_le hpos

theorem timerDown_le (n : BitVec 15) : (timerDown n).toNat ≤ n.toNat := by
  by_cases h : n = 0
  · rw [h]
    exact Nat.le_refl 0
  · rw [timerDown_toNat h]
    exact Nat.sub_le _ _

theorem State.beginTick_timer_le (s : State) : s.beginTick.timer.toNat ≤ s.timer.toNat := by
  show (if _ then timerDown s.timer else s.timer).toNat ≤ _
  split
  · exact timerDown_le _
  · exact Nat.le_refl _

theorem State.TimerInDelay.le {s : State} (h : s.TimerInDelay) {n : BitVec 15} (hn : delayOperand s.params s.phase = some n) :
    s.timer.toNat ≤ n.toNat ∧ (s.params.delaySlackMax = 0 → 1 ≤ s.timer.toNat) := by
  rw [State.TimerInDelay, hn, Option.all_some, decide_eq_true_iff] at h
  exact h

theorem State.RetryInWait.bounds {s : State} (h : s.RetryInWait) {g : Level} {m : BitVec 8}
    (hw : waitOperands s.params s.phase = some (g, m)) : 1 ≤ s.retry.toNat ∧ s.retry.toNat ≤ m.toNat := by
  rw [State.RetryInWait, hw, Option.all_some, decide_eq_true_iff] at h
  exact h

theorem State.PhaseRests.not_ending {s : State} (h : s.PhaseRests) : s.phase ≠ Phase.validate ∧ s.phase ≠ Phase.restore := by
  constructor <;> intro hp <;> rw [State.PhaseRests, hp] at h <;> exact absurd h (by decide)

/-- The invariant between ticks gives the one inside the tick that begins. -/
theorem State.Inv.midTick {s : State} (h : s.Inv) : s.beginTick.MidTick := by
  obtain ⟨hphase, hbusy, hmode, hlevel, htimer, hretry, -, herr, hreading, hvalid, hslack⟩ := h
  have hrestore := hphase.not_ending.2
  refine ⟨⟨Nat.le_trans hphase (by decide), hbusy, hmode, hlevel⟩, ⟨⟨herr.1, fun he => .inl (herr.2 he)⟩, fun hr => ?_, ?_⟩,
    ⟨fun n hn => Nat.le_trans s.beginTick_timer_le (htimer.le hn).1, fun g m hw => ?_, hslack⟩⟩
  · exact ⟨.inl (hreading hr).1, (hreading hr).2⟩
  · rintro (hdone | hp) he
    · exact hvalid hdone he
    · exact absurd hp hrestore
  · obtain ⟨hone, hle⟩ := hretry.bounds hw
    exact ⟨hle, fun _ => hone⟩

/-- The actions that rest the tick: IDLE without `start`, a delay or a wait that blocks, RESTORE (R130). -/
theorem Acts.rests {s t : State} (ha : Acts s t) (hrest : t.phase = s.phase ∨ t.phase = Phase.idle) :
    (s.phase = Phase.idle ∧ s.startNow = false ∧ t = s) ∨
    ((s.phase = Phase.reqLow ∨ s.phase = Phase.relHigh ∨ s.phase = Phase.bitDelay) ∧
      (s.timer ≠ 0 ∧ t = s ∨ s.timer = 0 ∧ s.env.slack ≠ 0 ∧ t = s.spendSlack)) ∨
    (∃ g m, waitOperands s.params s.phase = some (g, m) ∧
      (s.env.slack ≠ 0 ∧ t = s.spendSlack ∨
        s.env.slack = 0 ∧ s.retry ≠ m ∧ s.line ≠ g ∧ t = s.countPoll.drawSlack)) ∨
    (s.phase = Phase.restore ∧ t = s.restoreLine) := by
  cases ha with
  | rest hp hstart => exact .inl ⟨hp, hstart, rfl⟩
  | delayRuns hp ht => exact .inr (.inl ⟨hp, .inl ⟨ht, rfl⟩⟩)
  | delaySlack hp ht hs => exact .inr (.inl ⟨hp, .inr ⟨ht, hs, rfl⟩⟩)
  | waitSlack g m hw hs => exact .inr (.inr (.inl ⟨g, m, hw, .inl ⟨hs, rfl⟩⟩))
  | mismatches g m hw hs hr hl => exact .inr (.inr (.inl ⟨g, m, hw, .inr ⟨hs, hr, hl, rfl⟩⟩))
  | restores hp => exact .inr (.inr (.inr ⟨hp, rfl⟩))
  | begins hp | reqLowEnds hp | relHighEnds hp | validates hp =>
    simp +decide [hp, State.begun, State.reqLowEnded, State.relHighEnded] at hrest
  | samples hp => rcases s.sampleBit_phase with hc | hc <;> rw [hc, hp] at hrest <;> exact absurd hrest (by decide)
  | exhausts g m hw => exact absurd hrest (not_or.mpr (State.exhausted_goesOn hw))
  | pollMatches g m hw =>
    obtain ⟨hl, -, hne⟩ := State.matched_listens (s := s.countPoll) hw
    exact absurd hrest (not_or.mpr ⟨hne, hl.not_output_phase.1⟩)

theorem State.TimerInDelay.intro {s : State}
    (h : ∀ n, delayOperand s.params s.phase = some n → s.timer.toNat ≤ n.toNat ∧ (s.params.delaySlackMax = 0 → 1 ≤ s.timer.toNat)) :
    s.TimerInDelay := by
  rw [State.TimerInDelay]
  cases hd : delayOperand s.params s.phase with
  | none => rfl
  | some n => simpa only [Option.all_some, decide_eq_true_iff] using h n hd

theorem State.RetryInWait.intro {s : State}
    (h : ∀ g m, waitOperands s.params s.phase = some (g, m) → 1 ≤ s.retry.toNat ∧ s.retry.toNat ≤ m.toNat) :
    s.RetryInWait := by
  rw [State.RetryInWait]
  cases hw : waitOperands s.params s.phase with
  | none => rfl
  | some gm => simpa only [Option.all_some, decide_eq_true_iff] using h gm.1 gm.2 hw

/-- The invariant between ticks, from the one inside the tick and the bounds of a phase that has rested. -/
theorem State.MidTick.inv {s : State} (h : s.MidTick) (hphase : s.PhaseRests) (htimer : s.TimerInDelay)
    (hretry : s.RetryInWait) : s.Inv := by
  obtain ⟨⟨-, hbusy, hmode, hlevel⟩, ⟨herr, hzero, hvalid⟩, hcounters⟩ := h
  have hrestore := hphase.not_ending.2
  exact ⟨hphase, hbusy, hmode, hlevel, htimer, hretry, Nat.le_of_lt_succ s.byteIdx.isLt,
    ⟨herr.1, fun he => (herr.2 he).resolve_right hrestore⟩,
    fun hr => ⟨(hzero hr).1.resolve_right hrestore, (hzero hr).2⟩, fun hdone => hvalid (.inl hdone), hcounters.slack⟩

/-- An idle state inside a tick is fit to stand between ticks. -/
theorem State.MidTick.inv_of_idle {s : State} (h : s.MidTick) (hp : s.phase = Phase.idle) : s.Inv :=
  h.inv (by rw [State.PhaseRests, hp]; decide) (.intro (by rw [hp]; exact nofun)) (.intro (by rw [hp]; exact nofun))

/-- The phases that may block may stand between ticks. -/
theorem phaseRests_of_delay {c : BitVec 4} (hp : c = Phase.reqLow ∨ c = Phase.relHigh ∨ c = Phase.bitDelay) : c.toNat ≤ 8 := by
  rcases hp with rfl | rfl | rfl <;> decide

theorem phaseRests_of_wait {p : Params} {c : BitVec 4} {g : Level} {m : BitVec 8} (hw : waitOperands p c = some (g, m)) :
    c.toNat ≤ 8 := by
  rcases waitOperands_cases hw with ⟨rfl, -⟩ | ⟨rfl, -⟩ | ⟨rfl, -⟩ | ⟨rfl, -⟩ | ⟨rfl, -⟩ <;> decide

theorem State.one_le_timer {s : State} (ht : s.timer ≠ 0) : 1 ≤ s.timer.toNat :=
  Nat.one_le_iff_ne_zero.mpr fun h => ht (BitVec.toNat_inj.mp h)

/-- The state in which a tick rests meets the full invariant. -/
theorem State.MidTick.inv_of_rests {s t : State} (h : s.MidTick) (ha : Acts s t)
    (hrest : t.phase = s.phase ∨ t.phase = Phase.idle) : t.Inv := by
  have ht := h.acts ha
  rcases ha.rests hrest with ⟨hp, -, rfl⟩ | ⟨hp, hblocked⟩ | ⟨g, m, hw, hblocked⟩ | ⟨-, rfl⟩
  · exact h.inv_of_idle hp
  · have hretry : ∀ g m, waitOperands s.params s.phase = some (g, m) → False := fun g m hw => by
      cases (waitOperands_of_delay hp).symm.trans hw
    rcases hblocked with ⟨htimer, rfl⟩ | ⟨-, hs, rfl⟩
    · exact h.inv (phaseRests_of_delay hp) (.intro fun n hn => ⟨h.counters.timer n hn, fun _ => State.one_le_timer htimer⟩)
        (.intro fun g m hw => (hretry g m hw).elim)
    · refine ht.inv (phaseRests_of_delay hp) (.intro fun n hn => ⟨h.counters.timer n hn, fun hmax => ?_⟩)
        (.intro fun g m hw => (hretry g m hw).elim)
      exact absurd (Nat.le_zero.mp (hmax ▸ h.counters.slack)) hs
  · have hdelay : ∀ n, delayOperand s.params s.phase = some n → False := fun n hn => by
      cases (delayOperand_of_wait hw).symm.trans hn
    obtain ⟨hle, hone⟩ := h.counters.retry g m hw
    rcases hblocked with ⟨hs, rfl⟩ | ⟨-, hr, -, rfl⟩
    · refine ht.inv (phaseRests_of_wait hw) (.intro fun n hn => (hdelay n hn).elim) (.intro fun g' m' hw' => ?_)
      cases hw.symm.trans hw'
      exact ⟨hone hs, hle⟩
    · obtain ⟨hcount, hlt⟩ := State.countPoll_retry_toNat hle hr
      refine ht.inv (phaseRests_of_wait hw) (.intro fun n hn => (hdelay n hn).elim) (.intro fun g' m' hw' => ?_)
      cases hw.symm.trans hw'
      show 1 ≤ s.countPoll.retry.toNat ∧ s.countPoll.retry.toNat ≤ m.toNat
      omega
  · exact ht.inv_of_idle rfl

/-- The loop of a tick goes on from every state of the invariant, to one that meets it again. -/
theorem State.Inv.settles {s : State} (h : s.Inv) : ∃ t, settle s.beginTick = .next t ∧ t.Inv := by
  obtain ⟨u, t, hsettle, hu, ha, hrest⟩ :=
    settle_of_progress (P := State.MidTick) (fun _ _ hs ha _ _ => hs.acts ha) (fun _ hs => hs.acts_exists) h.midTick
  exact ⟨t, hsettle, hu.inv_of_rests ha hrest⟩

/-- Settles O5, by evaluation. -/
theorem resetSatisfiesTheInvariants : Obligations.ResetSatisfiesTheInvariants := by
  unfold Obligations.ResetSatisfiesTheInvariants
  decide

/-- The invariant speaks neither of the tick number, the ports, the host nor the model's result; the reset state meets it
with every parameter record. -/
theorem State.inv_resetBlock (s : State) : s.resetBlock.Inv := by
  obtain ⟨hphase, hbusy, hmode, hlevel, -, -, hbyte, herr, hzero, hvalid, -⟩ := resetSatisfiesTheInvariants.1
  exact ⟨hphase, hbusy, hmode, hlevel, rfl, rfl, hbyte, herr, hzero, hvalid, Nat.zero_le _⟩

theorem State.Inv.taskAct_endTick {s : State} (h : s.Inv) (raised : Bool) : (s.taskAct raised).endTick.Inv := h

theorem State.Inv.step {s : State} (h : s.Inv) : ∃ t, Machine.step s = .next t ∧ t.Inv := by
  cases hr : s.inputsNow.rst with
  | true => exact ⟨_, tick_reset hr, s.inv_resetBlock⟩
  | false =>
    obtain ⟨u, hu, hinv⟩ := h.settles
    exact ⟨_, by rw [step_noReset hr, hu, andThen_next], hinv.taskAct_endTick _⟩

/-- Settles O6: the loop keeps the invariant's form inside the tick, and rests only with the full one. -/
theorem tickKeepsTheInvariantsAndNeverStops : Obligations.TickKeepsTheInvariantsAndNeverStops := fun _ h => h.step

theorem State.Inv.of_step {s t : State} (h : s.Inv) (hstep : Machine.step s = .next t) : t.Inv := by
  obtain ⟨u, hu, hinv⟩ := h.step
  cases hu.symm.trans hstep
  exact hinv

/-! ## Runs -/

/-- What holds of a state and is kept by every tick holds after every run. -/
theorem runTicks_keeps {P : State → Prop} (hP : ∀ s t, P s → step s = .next t → P t) {n : Nat} {s t : State} (hs : P s)
    (h : runTicks n s = .next t) : P t := by
  induction n generalizing s with
  | zero => cases h; exact hs
  | succ n ih =>
    rw [runTicks_succ] at h
    obtain ⟨u, hu, hrun⟩ := andThen_eq_next h
    exact ih (hP s u hs hu) hrun

theorem inv_of_run {n : Nat} {t : State} (h : runTicks n State.reset = .next t) : t.Inv :=
  runTicks_keeps (P := State.Inv) (fun _ _ hs hstep => hs.of_step hstep) resetSatisfiesTheInvariants.1 h

/-- Settles O16: the reserved codes fault, and the invariant keeps every run away from them. -/
theorem reservedPhasesFaultAndAreUnreachable : Obligations.ReservedPhasesFaultAndAreUnreachable := by
  refine ⟨fun _ => rfl, fun _ _ => rfl, fun s hr hp => ?_, fun n t h => ?_⟩
  · rw [step_noReset hr, settle, maxActions, runActions_succ_fetched, exec_reserved (s := s.beginTick) hp]
    rfl
  · obtain ⟨hphase, -⟩ := inv_of_run h
    exact Nat.lt_of_le_of_lt hphase (by decide)

/-! ## What the invariants give -/

/-- Settles O35: the mode and the level that the invariants give each phase. -/
theorem padWordFollowsThePhase : Obligations.PadWordFollowsThePhase := by
  rintro s ⟨hphase, -, hmode, hlevel, -⟩
  have hword : ∀ (m : PinMode) (l : Level) (c : BitVec 4), c.toNat ≤ 8 →
      (m = .output ↔ c = Phase.idle ∨ c = Phase.reqLow ∨ c = Phase.relHigh) → (l = .low ↔ c = Phase.reqLow) →
      m.code ++ l.code =
        (if c = Phase.reqLow then 0b10#2 else if c = Phase.idle ∨ c = Phase.relHigh then 0b11#2 else 0b01#2) := by
    intro m l
    cases m <;> cases l <;> decide
  exact hword s.pinMode s.pinLevel s.phase hphase hmode hlevel

/-- A transaction under way, or about to begin, stays under way through every action or ends with `done`. -/
theorem Acts.busy_or_done {s t : State} (ha : Acts s t)
    (h : (s.busy = true ∨ s.done = true) ∨ s.phase = Phase.idle ∧ s.startNow = true) : t.busy = true ∨ t.done = true := by
  have hworks : s.phase ≠ Phase.idle ∨ s.startNow = false → s.busy = true ∨ s.done = true := fun hn =>
    h.resolve_right fun ⟨hp, hstart⟩ => by simp [hp, hstart] at hn
  cases ha with
  | rest _ hstart => exact hworks (.inr hstart)
  | delayRuns hp | delaySlack hp => exact hworks (.inl (by rcases hp with hp | hp | hp <;> rw [hp] <;> decide))
  | waitSlack g m hw | mismatches g m hw => exact hworks (.inl (listens_of_wait hw).not_output_phase.1)
  | begins => exact .inl rfl
  | reqLowEnds hp | relHighEnds hp => exact hworks (.inl (by rw [hp]; decide))
  | samples hp =>
    obtain ⟨hbusy, hdone, -⟩ := s.sampleBit_frame
    rw [hbusy, hdone]
    exact hworks (.inl (by rw [hp]; decide))
  | exhausts g m hw =>
    obtain ⟨hbusy, hdone, -⟩ := s.exhausted_frame
    rw [hbusy, hdone]
    exact hworks (.inl (listens_of_wait hw).not_output_phase.1)
  | pollMatches g m hw =>
    obtain ⟨hbusy, hdone, -⟩ := s.countPoll.matched_frame
    rw [hbusy, hdone]
    exact hworks (.inl (listens_of_wait hw).not_output_phase.1)
  | validates hp => simpa using hworks (.inl (by rw [hp]; decide))
  | restores => exact .inr rfl

theorem settle_busy_or_done {s t : State} (h : settle s = .next t)
    (hs : (s.busy = true ∨ s.done = true) ∨ s.phase = Phase.idle ∧ s.startNow = true) : t.busy = true ∨ t.done = true := by
  obtain ⟨u, hu, ha, -⟩ := runActions_last
    (P := fun u => (u.busy = true ∨ u.done = true) ∨ u.phase = Phase.idle ∧ u.startNow = true)
    (fun _ _ hP ha => .inl (ha.busy_or_done hP)) hs h
  exact ha.busy_or_done hu

/-- Settles O32: the invariants hold in the idle state, and the transaction's end has set `done`. -/
theorem transactionEndsRestored : Obligations.TransactionEndsRestored := by
  intro s t hinv hbusy hr hstep hidle
  obtain ⟨-, hbusy', hmode, hlevel, -, -, -, herr, hzero, hvalid, -⟩ := hinv.of_step hstep
  have hphase : t.phase = Phase.idle := by
    refine Decidable.byContradiction fun hne => ?_
    rw [hbusy'.1.mpr hne] at hidle
    cases hidle
  have hpinLevel : t.pinLevel = .high := by
    cases hl : t.pinLevel with
    | high => rfl
    | low =>
      have hreq := hlevel.mp hl
      rw [hphase] at hreq
      exact absurd hreq (by decide)
  have hdone : t.done = true := by
    rcases step_cases hstep with ⟨hr', -⟩ | ⟨-, u, hu, rfl⟩
    · rw [hr] at hr'
      cases hr'
    · exact (settle_busy_or_done hu (.inl (.inl hbusy))).resolve_left (by simpa using hidle)
  refine ⟨hphase, hmode.mpr (.inl hphase), hpinLevel, hdone, ?_⟩
  have hreading : t.err ≠ .none → t.reading = ⟨0, 0, 0, 0⟩ := fun he =>
    Decidable.byContradiction fun hne => he (hzero hne).2
  cases he : t.err with
  | none => exact .inl ⟨rfl, hvalid hdone he⟩
  | timeout => exact .inr (.inl ⟨rfl, hreading (by simp [he])⟩)
  | checksumMismatch => exact .inr (.inr ⟨rfl, hreading (by simp [he])⟩)
  | noResponse => exact absurd he herr.1

end Sys2Proof.Machine
end

section
/-! The host's task (45_periodic_task.md R160 to R166). -/

namespace Sys2Proof.Machine

/-- Settles O56: the three answers of PERIODIC_TASK. -/
theorem periodicTaskIsSpawnedOnce : Obligations.PeriodicTaskIsSpawnedOnce := by
  intro ms s
  have hmin : Config.minIntervalMs = 2000 := rfl
  show (_ → _ → execPeriodicTask ms s = _) ∧ (_ → execPeriodicTask ms s = _) ∧ (_ → _ → execPeriodicTask ms s = _)
  refine ⟨fun hms hm => ?_, fun hms => ?_, fun hms hm => ?_⟩
  · rw [execPeriodicTask, if_neg (by omega), if_neg (not_not_intro hm)]
  · rw [execPeriodicTask, if_pos (by omega)]
  · rw [execPeriodicTask, if_neg (by omega), if_pos hm]

/-- A task that raises `start` owns it, and the idle block sees it. -/
theorem State.startNow_of_taskRaises {s : State} (h : s.taskRaises = true) : s.startNow = true := by
  rw [State.startNow]
  split
  · next hm => rw [State.taskRaises_notSpawned hm] at h; cases h
  all_goals exact h

theorem State.taskRaises_waiting {s : State} (h : s.task.mode = .waiting) : s.taskRaises = false := by
  simp [State.taskRaises, h]

/-- After a reset no task waits: it is not spawned, or suspends a whole interval (R191, R194). -/
theorem State.taskOnReset_cases (s : State) :
    (s.task.mode = .notSpawned ∧ s.taskOnReset = s.task) ∨
      (s.task.mode ≠ .notSpawned ∧ s.taskOnReset = { s.task with mode := .suspended s.wakeTick }) := by
  unfold State.taskOnReset
  split
  · next h => exact .inl ⟨h, rfl⟩
  all_goals next h => exact .inr ⟨by simp [h], rfl⟩

/-- What becomes of the task in a tick: reset suspends it, or it does its part with the state the block has reached. -/
theorem step_task {s t : State} (h : step s = .next t) :
    (s.inputsNow.rst = true ∧ t.task = s.taskOnReset) ∨
    (s.inputsNow.rst = false ∧ ∃ u, settle s.beginTick = .next u ∧ u.task = s.task ∧ u.env.tick = s.env.tick ∧
      t = (u.taskAct s.taskRaises).endTick) := by
  rcases step_cases h with ⟨hr, rfl⟩ | ⟨hr, u, hu, rfl⟩
  · exact .inl ⟨hr, rfl⟩
  · obtain ⟨htick, -, -, htask, -⟩ := settle_frame hu
    exact .inr ⟨hr, u, hu, htask, htick, rfl⟩

/-- Settles O60: a task that still waits has seen no `done`, so the transaction it raised or waited for runs. -/
theorem waitingTaskHasATransactionRunning : Obligations.WaitingTaskHasATransactionRunning := by
  intro s t _ hwaits hstep hmode
  rcases step_task hstep with ⟨-, htask⟩ | ⟨-, u, hu, htask, -, rfl⟩
  · rcases s.taskOnReset_cases with ⟨hn, he⟩ | ⟨-, he⟩ <;> rw [htask, he] at hmode
    · rw [hn] at hmode; cases hmode
    · cases hmode
  · have hmode' : (u.taskAfter s.taskRaises).mode = .waiting := hmode
    have hrun : (s.busy = true ∨ s.done = true) ∨ s.phase = Phase.idle ∧ s.startNow = true := by
      cases hraise : s.taskRaises with
      | true => exact .inr ⟨(State.taskRaises_idle hraise).1, State.startNow_of_taskRaises hraise⟩
      | false =>
        refine .inl (.inl (hwaits ?_))
        rcases u.taskAfter_cases s.taskRaises with ⟨-, -, he⟩ | ⟨-, he⟩ <;> rw [he] at hmode'
        · cases hmode'
        · rw [← htask]
          simpa [State.taskModeAfterStart, hraise] using hmode'
    have hend := settle_busy_or_done (s := s.beginTick) hu hrun
    rcases u.taskAfter_cases s.taskRaises with ⟨-, -, he⟩ | ⟨hnot, he⟩ <;> rw [he] at hmode'
    · cases hmode'
    · exact hend.resolve_right fun hdone => hnot ⟨hmode', hdone⟩

/-- The log line of a block that shows a reading, and of one that shows an error (R164). -/
theorem State.logEntry_eq (s : State) :
    s.logEntry =
      if s.err = .none then
        .info (10 * s.reading.humidityIntegral.toNat + s.reading.humidityDecimal.toNat)
          (10 * s.reading.temperatureIntegral.toNat + s.reading.temperatureDecimal.toNat)
      else .warning s.err := by
  rw [State.logEntry, humidityTenths_toNat, temperatureTenths_toNat]

/-- Settles O57: the task looks at the state its tick's loop has reached. -/
theorem taskLogsAndSuspendsInBothCases : Obligations.TaskLogsAndSuspendsInBothCases := by
  intro s t hr hmode hstep hdone
  rcases step_task hstep with ⟨hr', -⟩ | ⟨-, u, -, htask, htick, rfl⟩
  · rw [hr] at hr'
    cases hr'
  · have hwaits : u.taskModeAfterStart s.taskRaises = .waiting := by
      rw [State.taskRaises_waiting hmode]
      simp [State.taskModeAfterStart, htask, hmode]
    have hdone' : u.done = true := hdone
    have hafter : u.taskAfter s.taskRaises =
        { mode := .suspended u.wakeTick, intervalMs := u.task.intervalMs, log := u.task.log ++ [u.logEntry] } := by
      rw [State.taskAfter, if_pos ⟨hwaits, hdone'⟩]
    show (u.taskAfter s.taskRaises).mode = _ ∧ (u.taskAfter s.taskRaises).intervalMs = _ ∧
      (u.err = _ → (u.taskAfter s.taskRaises).log = _) ∧ (u.err ≠ _ → (u.taskAfter s.taskRaises).log = _)
    rw [hafter, State.wakeTick, htask, htick, State.logEntry_eq]
    refine ⟨rfl, rfl, fun he => ?_, fun he => ?_⟩
    · rw [if_pos he]
      rfl
    · rw [if_neg he]
      rfl

/-- A task that neither raised `start` nor waits stays where it is. -/
theorem State.taskAct_of_not_waiting {s : State} (h : s.task.mode ≠ .waiting) : s.taskAct false = s := by
  have hafter : s.taskAfter false = s.task := by
    rw [State.taskAfter, if_neg fun hw => h hw.1]
    rfl
  rw [State.taskAct, hafter]

/-- A suspended task does not raise `start` before its time (R161). -/
theorem State.taskRaises_suspended {s : State} {wake : Nat} (h : s.task.mode = .suspended wake) (hlt : s.env.tick < wake) :
    s.taskRaises = false := by
  have hnot : ¬wake ≤ s.env.tick := Nat.not_le_of_gt hlt
  simp only [State.taskRaises, h, hnot, decide_false, Bool.false_and]

theorem State.startNow_suspended {s : State} {wake : Nat} (h : s.task.mode = .suspended wake) : s.startNow = s.taskRaises := by
  simp [State.startNow, h]

/-- One tick of an idle block whose task is suspended. -/
theorem step_suspended {s : State} {wake : Nat} (hp : s.phase = Phase.idle) (hm : s.task.mode = .suspended wake)
    (hlt : s.env.tick < wake) (hr : s.inputsNow.rst = false) : step s = .next (s.elapse 1) := by
  have hraise := State.taskRaises_suspended hm hlt
  rw [step_noReset hr, settle_idle hp ((State.startNow_suspended hm).trans hraise), andThen_next, hraise,
    State.taskAct_of_not_waiting (by simp [hm])]
  rfl

/-- Settles O58, by induction on the ticks. -/
theorem suspendedTaskKeepsTheBlockIdle : Obligations.SuspendedTaskKeepsTheBlockIdle := by
  intro n
  induction n with
  | zero => intro s wake _ _ _ _; rfl
  | succ n ih =>
    intro s wake hp hm hle hr
    rw [runTicks_succ, step_suspended hp hm (by omega) (hr 0 (by omega)), andThen_next]
    have hrest := ih (s.elapse 1) wake hp hm (by simp only [State.elapse_env]; omega) fun k hk => by
      rw [State.rstAt_elapse]
      exact hr (1 + k) (by omega)
    rw [hrest]
    simp [State.elapse, Nat.add_assoc, Nat.add_comm 1 n]

/-! ## Two starts -/

/-- What holds of every state after the tick `first` at which a task raised `start`: two million ticks have passed, or the
task waits for the transaction's end, or it is suspended for as long (R161). -/
def State.StartedAt (first : Nat) (s : State) : Prop :=
  first + 2000000 ≤ s.env.tick ∨
    (first ≤ s.env.tick ∧ 2000 ≤ s.task.intervalMs ∧
      (s.task.mode = .waiting ∨ ∃ wake, s.task.mode = .suspended wake ∧ first + 2000000 ≤ wake))

theorem State.wakeTick_ge {s : State} {first : Nat} (hfirst : first ≤ s.env.tick) (hms : 2000 ≤ s.task.intervalMs) :
    first + 2000000 ≤ s.wakeTick := by
  have hticks : Config.ticksPerMs = 1000 := rfl
  rw [State.wakeTick, hticks]
  omega

/-- A task that has raised `start`, or waits, or is suspended long enough leads to a state after `first`. -/
theorem startedAt_of_step {first : Nat} {s t : State} (hfirst : first ≤ s.env.tick) (hms : 2000 ≤ s.task.intervalMs)
    (hmode : s.taskRaises = true ∨ s.task.mode = .waiting ∨
      s.taskRaises = false ∧ ∃ wake, s.task.mode = .suspended wake ∧ first + 2000000 ≤ wake)
    (hstep : step s = .next t) : t.StartedAt first := by
  have htick : t.env.tick = s.env.tick + 1 := (tickTakesOneTickAndKeepsParameters s t hstep).1
  refine .inr ⟨by omega, ?_⟩
  rcases step_task hstep with ⟨-, htask⟩ | ⟨-, u, -, htask, htick', rfl⟩
  · rcases s.taskOnReset_cases with ⟨hn, -⟩ | ⟨-, he⟩
    · have hraise := State.taskRaises_notSpawned hn
      simp [hn, hraise] at hmode
    · rw [htask, he]
      exact ⟨hms, .inr ⟨_, rfl, State.wakeTick_ge hfirst hms⟩⟩
  · show 2000 ≤ (u.taskAfter s.taskRaises).intervalMs ∧ ((u.taskAfter s.taskRaises).mode = _ ∨
      ∃ wake, (u.taskAfter s.taskRaises).mode = _ ∧ _)
    have hms' : 2000 ≤ u.task.intervalMs := by rwa [htask]
    rcases u.taskAfter_cases s.taskRaises with ⟨-, -, he⟩ | ⟨-, he⟩ <;> rw [he]
    · exact ⟨hms', .inr ⟨_, rfl, State.wakeTick_ge (by omega) hms'⟩⟩
    · refine ⟨hms', ?_⟩
      rcases hmode with hraise | hwaits | ⟨hraise, hsusp⟩
      · rw [hraise]
        exact .inl rfl
      · rw [State.taskRaises_waiting hwaits]
        exact .inl (by rw [← hwaits, ← htask]; rfl)
      · rw [hraise]
        exact .inr (by rw [← htask] at hsusp; exact hsusp)

/-- A suspended task that raises `start` has waited until its time. -/
theorem State.wake_le_of_taskRaises {s : State} {wake : Nat} (hm : s.task.mode = .suspended wake) (h : s.taskRaises = true) :
    wake ≤ s.env.tick := by
  refine Nat.le_of_not_lt fun hlt => ?_
  rw [State.taskRaises_suspended hm hlt] at h
  cases h

theorem State.StartedAt.step {first : Nat} {s t : State} (h : s.StartedAt first) (hstep : Machine.step s = .next t) :
    t.StartedAt first := by
  have htick : t.env.tick = s.env.tick + 1 := (tickTakesOneTickAndKeepsParameters s t hstep).1
  rcases h with hlate | ⟨hfirst, hms, hwaits | ⟨wake, hm, hwake⟩⟩
  · exact .inl (by omega)
  · exact startedAt_of_step hfirst hms (.inr (.inl hwaits)) hstep
  · cases hraise : s.taskRaises with
    | true => exact .inl (by have := State.wake_le_of_taskRaises hm hraise; omega)
    | false => exact startedAt_of_step hfirst hms (.inr (.inr ⟨hraise, wake, hm, hwake⟩)) hstep

/-- Settles O59: `StartedAt` holds after the first tick and is kept by every other. -/
theorem startsAreTwoSecondsApart : Obligations.StartsAreTwoSecondsApart := by
  intro n s t hms hraise hn hrun hraise'
  obtain ⟨n, rfl⟩ : ∃ k, n = k + 1 := ⟨n - 1, by omega⟩
  rw [runTicks_succ] at hrun
  obtain ⟨u, hu, hrun⟩ := andThen_eq_next hrun
  have hend : t.StartedAt s.env.tick :=
    runTicks_keeps (P := State.StartedAt s.env.tick) (fun _ _ h hstep => h.step hstep)
      (startedAt_of_step (Nat.le_refl _) hms (.inl hraise) hu) hrun
  rcases hend with hlate | ⟨-, -, hwaits | ⟨wake, hm, hwake⟩⟩
  · exact hlate
  · rw [State.taskRaises_waiting hwaits] at hraise'
    cases hraise'
  · exact Nat.le_trans hwake (State.wake_le_of_taskRaises hm hraise')

end Sys2Proof.Machine
end

section
/-! What a tick does not look at: the queue of the coming ports, `start` outside IDLE, the line during a delay. -/

namespace Sys2Proof.Machine

/-- The state with another queue of ports. -/
def State.withInputs (s : State) (q : List PortInputs) : State := { s with env := { s.env with inputs := q } }

@[simp] theorem State.withInputs_phase (s : State) (q : List PortInputs) : (s.withInputs q).phase = s.phase := rfl
@[simp] theorem State.withInputs_self (s : State) : s.withInputs s.env.inputs = s := rfl

/-- The two queues show the action the same ports: the line's level, and `start` where IDLE looks at it. -/
def State.SamePorts (s : State) (q : List PortInputs) : Prop :=
  (s.withInputs q).line = s.line ∧ (s.phase = Phase.idle → (s.withInputs q).startNow = s.startNow)

theorem State.sampleBit_withInputs {s : State} {q : List PortInputs} (h : (s.withInputs q).line = s.line) :
    (s.withInputs q).sampleBit = s.sampleBit.withInputs q := by
  simp only [State.sampleBit, h, apply_ite (State.withInputs · q)]
  rfl

theorem State.matched_withInputs (s : State) (q : List PortInputs) :
    (s.withInputs q).matched = s.matched.withInputs q := by
  simp only [State.matched, State.withInputs_phase, apply_ite (State.withInputs · q)]
  rfl

theorem State.exhausted_withInputs (s : State) (q : List PortInputs) :
    (s.withInputs q).exhausted = s.exhausted.withInputs q := by
  rw [State.exhausted_eq, State.exhausted_eq, apply_ite (State.withInputs · q)]
  rfl

theorem State.validateRegs_withInputs (s : State) (q : List PortInputs) :
    (s.withInputs q).validateRegs = s.validateRegs.withInputs q := by
  rw [State.validateRegs_eq, State.validateRegs_eq, apply_ite (State.withInputs · q)]
  rfl

/-- An action looks at no ports but the line's level and, in IDLE, `start`. -/
theorem Acts.withInputs {s t : State} {q : List PortInputs} (ha : Acts s t) (h : s.SamePorts q) :
    Acts (s.withInputs q) (t.withInputs q) := by
  obtain ⟨hline, hstart⟩ := h
  cases ha with
  | rest hp hs => exact .rest hp ((hstart hp).trans hs)
  | begins hp hs hm => exact .begins hp ((hstart hp).trans hs) hm
  | delayRuns hp ht => exact .delayRuns hp ht
  | delaySlack hp ht hs => exact .delaySlack hp ht hs
  | reqLowEnds hp ht hs hm => exact .reqLowEnds hp ht hs hm
  | relHighEnds hp ht hs => exact .relHighEnds hp ht hs
  | samples hp ht hs => exact State.sampleBit_withInputs hline ▸ .samples hp ht hs
  | waitSlack g m hw hs => exact .waitSlack g m hw hs
  | exhausts g m hw hs hr => exact s.exhausted_withInputs q ▸ .exhausts g m hw hs hr
  | pollMatches g m hw hs hr hl => exact s.countPoll.matched_withInputs q ▸ .pollMatches g m hw hs hr (hline.trans hl)
  | mismatches g m hw hs hr hl => exact .mismatches g m hw hs hr (by rwa [hline])
  | validates hp =>
    have hv : (s.withInputs q).validateRegs.enterPhase Phase.restore =
        (s.validateRegs.enterPhase Phase.restore).withInputs q :=
      congrArg (State.enterPhase · Phase.restore) (s.validateRegs_withInputs q)
    exact hv ▸ .validates hp
  | restores hp => exact .restores hp

/-- Same ports seen from the other queue. -/
theorem State.SamePorts.symm {s : State} {q : List PortInputs} (h : s.SamePorts q) :
    (s.withInputs q).SamePorts s.env.inputs :=
  ⟨h.1.symm, fun hp => (h.2 hp).symm⟩

/-- What is executed with another queue that shows the same ports. -/
theorem exec_withInputs {s : State} {q : List PortInputs} (h : s.SamePorts q) :
    exec (s.withInputs q).fetched (s.withInputs q) = andThen (exec s.fetched s) fun t => .next (t.withInputs q) := by
  by_cases hex : ∃ t, Acts s t
  · obtain ⟨t, ht⟩ := hex
    rw [exec_of_acts ht, exec_of_acts (ht.withInputs h)]
    rfl
  · have hnone : ∀ t, ¬Acts s t := fun t ht => hex ⟨t, ht⟩
    have hnone' : ∀ t, ¬Acts (s.withInputs q) t := fun t ht => hnone _ (ht.withInputs h.symm)
    rw [exec_fetched_of_not_acts hnone, exec_fetched_of_not_acts hnone']
    show (if s.phase.toNat < 11 then _ else _) = _
    split <;> rfl

/-- The line's level is the sensor's or the pin's, so equal port levels give equal lines. -/
theorem State.line_withInputs {s : State} {q : List PortInputs}
    (h : (s.withInputs q).inputsNow.line = s.inputsNow.line) : (s.withInputs q).line = s.line := by
  rcases s.pinMode_cases with hm | hm
  · rw [State.line_output hm, State.line_output (s := s.withInputs q) hm]
    rfl
  · rw [State.line_input hm, State.line_input (s := s.withInputs q) hm, h]

theorem State.startNow_of_spawned {s : State} (h : s.task.mode ≠ .notSpawned) : s.startNow = s.taskRaises := by
  rw [State.startNow]
  split
  · next hm => exact absurd hm h
  all_goals rfl

/-- `start` is the port's or the task's, so equal ports give equal `start`. -/
theorem State.startNow_withInputs {s : State} {q : List PortInputs}
    (h : (s.withInputs q).inputsNow.start = s.inputsNow.start) : (s.withInputs q).startNow = s.startNow := by
  by_cases hm : s.task.mode = .notSpawned
  · rw [State.startNow_notSpawned hm, State.startNow_notSpawned (s := s.withInputs q) hm, h]
  · rw [State.startNow_of_spawned hm, State.startNow_of_spawned (s := s.withInputs q) hm]
    rfl

/-- The loop with another queue that shows the same ports. -/
theorem runActions_withInputs (n : Nat) {s : State} {q : List PortInputs}
    (hline : (s.withInputs q).inputsNow.line = s.inputsNow.line)
    (hstart : s.phase = Phase.idle → (s.withInputs q).startNow = s.startNow) :
    runActions n (s.withInputs q) = andThen (runActions n s) fun t => .next (t.withInputs q) := by
  induction n generalizing s with
  | zero => rfl
  | succ n ih =>
    rw [runActions_succ_fetched, runActions_succ_fetched, exec_withInputs ⟨State.line_withInputs hline, hstart⟩]
    cases hexec : exec s.fetched s with
    | next t =>
      obtain ⟨htick, hinputs, -⟩ := (exec_fetched_eq_next.mp hexec).frame
      simp only [andThen_next]
      by_cases hrest : t.phase = s.phase ∨ t.phase = Phase.idle
      · rw [if_pos hrest, if_pos (c := (t.withInputs q).phase = (s.withInputs q).phase ∨ (t.withInputs q).phase = Phase.idle) hrest]
        rfl
      · rw [if_neg hrest, if_neg (c := (t.withInputs q).phase = (s.withInputs q).phase ∨ (t.withInputs q).phase = Phase.idle) hrest]
        refine ih ?_ fun hidle => absurd (.inr hidle) hrest
        rw [State.inputsNow_congr (s := t) htick hinputs, ← hline]
        exact congrArg PortInputs.line (State.inputsNow_congr htick rfl)
    | fault | refused => rfl

/-- A tick with another queue: the ports of later ticks, and `start` outside IDLE, make no difference (R53, R142). -/
theorem step_withInputs {s : State} {p p' : PortInputs} {rest rest' : List PortInputs} (hrst : p'.rst = p.rst)
    (hline : p'.line = p.line) (hstart : s.phase = Phase.idle → p'.start = p.start) :
    step (s.withInputs (p' :: rest')) =
      andThen (step (s.withInputs (p :: rest))) fun t => .next (t.withInputs rest') := by
  cases hr : p.rst with
  | true =>
    rw [tick_reset (s := s.withInputs (p' :: rest')) (hrst.trans hr), tick_reset (s := s.withInputs (p :: rest)) hr]
    rfl
  | false =>
    rw [step_noReset (s := s.withInputs (p' :: rest')) (hrst.trans hr), step_noReset (s := s.withInputs (p :: rest)) hr]
    have hloop : settle (s.withInputs (p' :: rest')).beginTick =
        andThen (settle (s.withInputs (p :: rest)).beginTick) fun t => .next (t.withInputs (p' :: rest')) := by
      exact runActions_withInputs maxActions (s := (s.withInputs (p :: rest)).beginTick) hline fun hp =>
        State.startNow_withInputs (hstart hp)
    rw [hloop]
    cases hsettle : settle (s.withInputs (p :: rest)).beginTick with
    | next t => rfl
    | fault | refused => rfl

/-- Settles O15: the later ports only come out of the tick as they went in. -/
theorem tickReadsOnlyItsOwnSample : Obligations.TickReadsOnlyItsOwnSample := fun _ _ _ _ =>
  step_withInputs rfl rfl fun _ => rfl

/-- Settles O13: outside IDLE `start` is not looked at. -/
theorem startWhileBusyLeavesNoTrace : Obligations.StartWhileBusyLeavesNoTrace := by
  intro s rest p b hp
  refine (step_withInputs (s := s) (p := p) (p' := { p with start := b }) (rest := rest) (rest' := rest) rfl rfl
    fun hidle => absurd hidle hp).trans ?_
  show andThen (step (s.withInputs (p :: rest))) _ = step (s.withInputs (p :: rest))
  cases hstep : step (s.withInputs (p :: rest)) with
  | next t =>
    have hinputs : t.env.inputs = rest := (tickTakesOneTickAndKeepsParameters _ t hstep).2.1
    rw [andThen_next, ← hinputs, State.withInputs_self]
  | fault | refused => rfl

/-- A delay that does not end in this tick only counts (R90, R130). -/
theorem settle_delayRuns {s : State} (hp : (delayOperand s.params s.phase).isSome = true) (ht : 1 < s.timer.toNat) :
    settle s.beginTick = .next s.beginTick := by
  have htimer : s.beginTick.timer ≠ 0 := by
    intro hzero
    have hne : s.timer ≠ 0 := fun h => by rw [h] at ht; exact absurd ht (by decide)
    have hdown : timerDown s.timer = 0 := by simpa only [State.beginTick, if_pos hp] using hzero
    have hone : s.timer.toNat - 1 = 0 := by rw [← timerDown_toNat hne, hdown]; rfl
    exact Nat.sub_ne_zero_of_lt ht hone
  exact settle_rests (.delayRuns ((delayOperand_isSome_iff s.params s.phase).mp hp) htimer) (.inl rfl)

/-- Settles O14: a running delay blocks before anything is read. -/
theorem delayDoesNotReadTheLine : Obligations.DelayDoesNotReadTheLine := by
  intro s rest p l hp ht
  show step (s.withInputs (⟨p.rst, p.start, l⟩ :: rest)) = step (s.withInputs (p :: rest))
  by_cases hr : p.rst = true
  · rw [tick_reset (s := s.withInputs (⟨p.rst, p.start, l⟩ :: rest)) hr, tick_reset (s := s.withInputs (p :: rest)) hr]
    rfl
  · have hr := Bool.eq_false_iff.mpr hr
    rw [step_noReset (s := s.withInputs (⟨p.rst, p.start, l⟩ :: rest)) hr, step_noReset (s := s.withInputs (p :: rest)) hr,
      settle_delayRuns (s := s.withInputs (⟨p.rst, p.start, l⟩ :: rest)) hp ht,
      settle_delayRuns (s := s.withInputs (p :: rest)) hp ht]
    rfl

end Sys2Proof.Machine
end

section
/-! Arithmetic of bytes and bits: the checksum, the tenths, the packings and the two forms of the bit assembly (R34, R55,
R113, R152, R157). -/

namespace Sys2Proof.Machine

/-- Settles O51: the checksum is a sum of bytes, in which the order makes no difference. -/
theorem checksumIsTheWrappingSum : Obligations.ChecksumIsTheWrappingSum := by
  refine ⟨checksum_toNat, fun a b c d e => ⟨?_, ?_⟩, fun a b c d e => ?_⟩
  · show a + b + c + d = b + a + c + d
    rw [BitVec.add_comm a b]
  · show a + b + c + d = b + c + d + a
    ac_rfl
  · rw [frameValid, beq_iff_eq, eq_comm]
    rfl

/-- Settles O52, with the tenths of the two halves of the reading. -/
theorem physicalValuesAreExactTenths : Obligations.PhysicalValuesAreExactTenths := fun r _ =>
  ⟨(humidityTenths r).toNat, (temperatureTenths r).toNat, rfl, rfl, humidityTenths_toNat r,
    humidityTenths_eq_ten_mul_humidityValue r, humidityTenths_le r, temperatureTenths_toNat r,
    temperatureTenths_eq_ten_mul_temperatureValue r, temperatureTenths_le r⟩

/-- A concatenation has its first part highest. -/
theorem toNat_append_eq {m n : Nat} (x : BitVec m) (y : BitVec n) : (x ++ y).toNat = x.toNat * 2 ^ n + y.toNat := by
  rw [BitVec.toNat_append, ← Nat.shiftLeft_add_eq_or_of_lt y.isLt, Nat.shiftLeft_eq]

/-- Settles O54, by the value of a concatenation. -/
theorem firstByteIsHighest : Obligations.FirstByteIsHighest := by
  refine ⟨fun r => ?_, fun f => ?_⟩
  · simp only [reading32, toNat_append_eq]
    omega
  · simp only [frame40, reading32, framePayload, toNat_append_eq]

/-- The shift form doubles what stands and adds the bit, modulo 256 (R113). -/
theorem shiftIn_toNat (acc : U8) (b : BitVec 1) : (shiftIn acc b).toNat = (2 * acc.toNat + b.toNat) % 256 := by
  have hb := b.isLt
  have hor := Nat.two_pow_add_eq_or_of_lt (i := 1) (b := b.toNat) (by omega) (acc.toNat % 128)
  have hshift : acc.toNat <<< 1 % 2 ^ 8 = 2 ^ 1 * (acc.toNat % 128) := by rw [Nat.shiftLeft_eq]; omega
  rw [shiftIn, BitVec.toNat_or, BitVec.toNat_shiftLeft, BitVec.toNat_setWidth, Nat.mod_eq_of_lt (a := b.toNat) (by omega),
    hshift, ← hor]
  omega

/-- The positional form adds the bit at its place, as long as that place and the lower ones are free (R113). -/
theorem placeBit_toNat {acc : U8} {i v : Nat} (b : BitVec 1) (hv : acc.toNat = v) (hi : i ≤ 7) (hfree : v % 2 ^ (8 - i) = 0) :
    (placeBit acc i b).toNat = v + b.toNat * 2 ^ (7 - i) := by
  subst hv
  have hpow : 2 ^ (8 - i) = 2 * 2 ^ (7 - i) := by rw [← Nat.pow_succ', show (7 - i).succ = 8 - i by omega]
  have hplace : b.toNat * 2 ^ (7 - i) < 2 ^ (8 - i) := by
    rw [hpow]
    exact Nat.mul_lt_mul_of_pos_right b.isLt (Nat.two_pow_pos _)
  have hle : 2 ^ (8 - i) ≤ 2 ^ 8 := Nat.pow_le_pow_right (by decide) (Nat.sub_le 8 i)
  have hsmall : b.toNat % 2 ^ 8 = b.toNat := Nat.mod_eq_of_lt (by omega)
  have hacc : acc.toNat = 2 ^ (8 - i) * (acc.toNat / 2 ^ (8 - i)) :=
    (Nat.mul_div_cancel' (Nat.dvd_of_mod_eq_zero hfree)).symm
  rw [placeBit, BitVec.toNat_or, BitVec.toNat_shiftLeft, BitVec.toNat_setWidth, hsmall, Nat.shiftLeft_eq,
    Nat.mod_eq_of_lt (Nat.lt_of_lt_of_le hplace hle), hacc, ← Nat.two_pow_add_eq_or_of_lt hplace, ← hacc]

/-- Eight bits in the shift form, the first highest (R54, R113). -/
theorem foldl_shiftIn_toNat (b0 b1 b2 b3 b4 b5 b6 b7 : BitVec 1) :
    ([b0, b1, b2, b3, b4, b5, b6, b7].foldl shiftIn 0).toNat =
      128 * b0.toNat + 64 * b1.toNat + 32 * b2.toNat + 16 * b3.toNat + 8 * b4.toNat + 4 * b5.toNat + 2 * b6.toNat +
        b7.toNat := by
  simp only [List.foldl, shiftIn_toNat]
  have hzero : (0 : U8).toNat = 0 := rfl
  omega

/-- Eight bits in the positional form, the first highest (R113). -/
theorem placeBits_toNat (b0 b1 b2 b3 b4 b5 b6 b7 : BitVec 1) :
    (placeBit (placeBit (placeBit (placeBit (placeBit (placeBit (placeBit (placeBit 0 0 b0) 1 b1) 2 b2) 3 b3) 4 b4) 5 b5) 6 b6)
      7 b7).toNat =
      128 * b0.toNat + 64 * b1.toNat + 32 * b2.toNat + 16 * b3.toNat + 8 * b4.toNat + 4 * b5.toNat + 2 * b6.toNat +
        b7.toNat := by
  have h0 := placeBit_toNat (acc := 0) (i := 0) (v := 0) b0 rfl (by decide) (by decide)
  have h1 := placeBit_toNat (i := 1) b1 h0 (by decide) (by omega)
  have h2 := placeBit_toNat (i := 2) b2 h1 (by decide) (by omega)
  have h3 := placeBit_toNat (i := 3) b3 h2 (by decide) (by omega)
  have h4 := placeBit_toNat (i := 4) b4 h3 (by decide) (by omega)
  have h5 := placeBit_toNat (i := 5) b5 h4 (by decide) (by omega)
  have h6 := placeBit_toNat (i := 6) b6 h5 (by decide) (by omega)
  have h7 := placeBit_toNat (i := 7) b7 h6 (by decide) (by omega)
  omega

/-- Settles O55: both forms have the same value, and BIT_DELAY uses the shift form. -/
theorem shiftAndPositionalFormsAgree : Obligations.ShiftAndPositionalFormsAgree := by
  intro b0 b1 b2 b3 b4 b5 b6 b7
  refine ⟨?_, foldl_shiftIn_toNat b0 b1 b2 b3 b4 b5 b6 b7, by decide, by decide, fun s ht hs hbit => ?_⟩
  · rw [← BitVec.toNat_inj, foldl_shiftIn_toNat, placeBits_toNat]
  · exact ⟨_, (bitDelaySamplesAndAssembles s ht hs).1 hbit, rfl⟩

/-! ## The primitives -/

/-- Settles O33: the whole delay with its slack, which is 0 on exact delays. -/
theorem delayLetsTicksPass : Obligations.DelayLetsTicksPass := by
  intro n s
  refine ⟨fun hexact => ?_, s.slackDrawn, s.slackDrawn_le, rfl⟩
  show Host.Outcome.next (s.delayUs n) = _
  rw [State.delayUs, State.passTicks_exact hexact.1 hexact.2]
  rfl

/-- Settles O34: the four pin operations in the two modes. -/
theorem pinOperations : Obligations.PinOperations := by
  intro s
  refine ⟨rfl, rfl, fun hm v => setLevel_output hm v, fun hm v => setLevel_input hm v, fun hm => ?_, fun hm => ?_⟩
  · show finishOp (readLevel s) .level = _
    rw [readLevel_input hm]
    rfl
  · show finishOp (readLevel s) .level = _
    rw [readLevel_output hm]
    rfl

end Sys2Proof.Machine
end

section
/-! What the big-step operations keep: one triple for each of them, from the wait up to READ (R100, R110, R112, R120). -/

namespace Sys2Proof.Machine

/-! ## Triples -/

/-- How an operation may end: what holds after `Ok`, after `Err`, and if it is refused. -/
def OpEnd.Meets {α : Type} (r : OpEnd α) (onOk : α → State → Prop) (onErr : ErrCode → State → Prop) (onRefused : Prop) : Prop :=
  match r with
  | .ok a s => onOk a s
  | .err e s => onErr e s
  | .refused _ => onRefused

/-- The rule of sequence. -/
theorem OpEnd.Meets.thenOp {α β : Type} {r : OpEnd α} {f : α → State → OpEnd β} {P : α → State → Prop} {Q : β → State → Prop}
    {E : ErrCode → State → Prop} {R : Prop} (h : r.Meets P E R) (hf : ∀ a s, P a s → (f a s).Meets Q E R) :
    (Machine.thenOp r f).Meets Q E R := by
  cases r with
  | ok a s => exact hf a s h
  | err e s => exact h
  | refused e => exact h

/-- The rule of consequence. -/
theorem OpEnd.Meets.mono {α : Type} {r : OpEnd α} {P P' : α → State → Prop} {E E' : ErrCode → State → Prop} {R R' : Prop}
    (h : r.Meets P E R) (hP : ∀ a s, P a s → P' a s) (hE : ∀ e s, E e s → E' e s) (hR : R → R') : r.Meets P' E' R' := by
  cases r with
  | ok a s => exact hP a s h
  | err e s => exact hE e s h
  | refused e => exact hR h

/-- An operation executed on its own goes on after `Ok` and after `Err`, and only then. -/
theorem finishOp_eq_next {α : Type} {r : OpEnd α} {v : α → OpResult} {t : State} (h : finishOp r v = .next t) :
    (∃ a u, r = .ok a u ∧ t = { u with ret := v a }) ∨ (∃ e u, r = .err e u ∧ t = { u with err := e, ret := .error e }) := by
  cases r with
  | ok a u => exact .inl ⟨a, u, rfl, (Host.Outcome.next.inj h).symm⟩
  | err e u => exact .inr ⟨e, u, rfl, (Host.Outcome.next.inj h).symm⟩
  | refused e => cases h

/-! ## The wait and the decoder -/

/-- From `s` to `t` time has passed, and only the counters, the environment and the byte under assembly have changed. -/
def Polled (s t : State) : Prop :=
  t = { s with acc := t.acc, bitIdx := t.bitIdx, timer := t.timer, retry := t.retry, env := t.env } ∧ s.env.tick ≤ t.env.tick

theorem Polled.refl (s : State) : Polled s s := ⟨rfl, Nat.le_refl _⟩

theorem Polled.trans {s t u : State} (h : Polled s t) (h' : Polled t u) : Polled s u := by
  obtain ⟨ht, htick⟩ := h
  obtain ⟨hu, htick'⟩ := h'
  rw [ht] at hu
  exact ⟨hu, Nat.le_trans htick htick'⟩

theorem Polled.pinMode {s t : State} (h : Polled s t) : t.pinMode = s.pinMode := by rw [h.1]
theorem Polled.frame {s t : State} (h : Polled s t) : t.frame = s.frame := by rw [h.1]
theorem Polled.byteIdx {s t : State} (h : Polled s t) : t.byteIdx = s.byteIdx := by rw [h.1]
theorem Polled.params {s t : State} (h : Polled s t) : t.params = s.params := by rw [h.1]

theorem polled_passTicks (s : State) (n : Nat) : Polled s (s.passTicks n) := ⟨rfl, Nat.le_add_right _ _⟩
theorem polled_delayUs (s : State) (n : BitVec 15) : Polled s (s.delayUs n) := ⟨rfl, Nat.le_add_right _ _⟩
theorem polled_countPoll (s : State) : Polled s s.countPoll := ⟨rfl, Nat.le_refl _⟩
theorem polled_keepBit (s : State) (b : BitVec 1) : Polled s (s.keepBit b) := ⟨rfl, Nat.le_refl _⟩

/-- The triple of every listening operation: whatever its end, only what `Polled` names has changed; its only error is
`Timeout`; it is refused in Output mode alone. -/
abbrev OpEnd.Listens {α : Type} (r : OpEnd α) (s : State) : Prop :=
  r.Meets (fun _ t => Polled s t) (fun e t => e = .timeout ∧ Polled s t) (s.pinMode = .output)

/-- A listening operation begun later is one begun now. -/
theorem OpEnd.Listens.after {α : Type} {r : OpEnd α} {s s1 : State} (h : r.Listens s1) (hs : Polled s s1) : r.Listens s :=
  h.mono (fun _ _ ht => hs.trans ht) (fun _ _ ⟨he, ht⟩ => ⟨he, hs.trans ht⟩) fun hm => by rw [← hs.pinMode]; exact hm

theorem waitLoop_listens (g : Level) (m : Nat) (s : State) : (waitLoop g m s).Listens s := by
  induction m generalizing s with
  | zero => exact ⟨rfl, Polled.refl s⟩
  | succ m ih =>
    rcases s.pinMode_cases with hm | hm
    · simp only [waitLoop, readLevel_output hm, thenOp_refused]
      exact hm
    · rw [waitLoop_succ hm]
      split
      · exact polled_countPoll s
      · exact (ih (s.countPoll.passTicks 1)).after ((polled_countPoll s).trans (polled_passTicks _ 1))

theorem waitFor_listens (g : Level) (m : BitVec 8) (s : State) : (waitFor g m s).Listens s :=
  (waitLoop_listens g m.toNat { s with retry := 0 }).after ⟨rfl, Nat.le_refl _⟩

theorem readLevel_listens (s : State) : (readLevel s).Listens s := by
  rcases s.pinMode_cases with hm | hm
  · rw [readLevel_output hm]
    exact hm
  · rw [readLevel_input hm]
    exact Polled.refl s

theorem readBit_listens (s : State) : (readBit s).Listens s := by
  refine (waitFor_listens .low _ s).thenOp fun _ s1 h1 => ?_
  refine ((waitFor_listens .high _ s1).after h1).thenOp fun _ s2 h2 => ?_
  refine ((readLevel_listens _).after (h2.trans (polled_delayUs s2 _))).thenOp fun _ s3 h3 => ?_
  exact h3

theorem readBits_listens (n : Nat) (s : State) : (readBits n s).Listens s := by
  induction n generalizing s with
  | zero => exact Polled.refl s
  | succ n ih =>
    refine (readBit_listens s).thenOp fun b s1 h1 => ?_
    exact (ih (s1.keepBit b)).after (h1.trans (polled_keepBit s1 b))

/-- READ_BYTE: a byte assembled while listening goes to `frame[byte_idx]`, or nothing does (R112, R114). -/
theorem readByte_meets (s : State) :
    (readByte s).Meets (fun v t => ∃ u, Polled s u ∧ t = u.storeByte v) (fun e t => e = .timeout ∧ Polled s t)
      (s.pinMode = .output) := by
  have hbits : (readBits Config.bitsPerByte { s with acc := 0, bitIdx := 0 }).Listens s :=
    (readBits_listens Config.bitsPerByte { s with acc := 0, bitIdx := 0 }).after ⟨rfl, Nat.le_refl _⟩
  exact hbits.thenOp fun _ u hu => ⟨u, hu, rfl⟩

/-- Settles O42: the two ends of READ_BYTE. -/
theorem readByteIsAllOrNothing : Obligations.ReadByteIsAllOrNothing := by
  intro s t h
  have hmeets := readByte_meets s
  rcases finishOp_eq_next (r := readByte s) h with ⟨v, u, hr, rfl⟩ | ⟨e, u, hr, rfl⟩ <;> rw [hr] at hmeets
  · obtain ⟨w, ⟨hw, -⟩, rfl⟩ := hmeets
    rw [hw]
    exact ⟨rfl, rfl, rfl, rfl, rfl, rfl, rfl, rfl, rfl, .inl ⟨v, rfl, rfl, rfl, rfl, rfl⟩⟩
  · obtain ⟨rfl, hu, -⟩ := hmeets
    rw [hu]
    exact ⟨rfl, rfl, rfl, rfl, rfl, rfl, rfl, rfl, rfl, .inr ⟨rfl, rfl, rfl⟩⟩

/-! ## The transaction -/

/-- From `s` to `t` time has passed, and only the receiving registers and the environment have changed. -/
def Received (s t : State) : Prop :=
  t = { s with byteIdx := t.byteIdx, bitIdx := t.bitIdx, acc := t.acc, frame := t.frame, timer := t.timer, retry := t.retry,
               env := t.env } ∧ s.env.tick ≤ t.env.tick

theorem Received.refl (s : State) : Received s s := ⟨rfl, Nat.le_refl _⟩

theorem Received.trans {s t u : State} (h : Received s t) (h' : Received t u) : Received s u := by
  obtain ⟨ht, htick⟩ := h
  obtain ⟨hu, htick'⟩ := h'
  rw [ht] at hu
  exact ⟨hu, Nat.le_trans htick htick'⟩

theorem Polled.received {s t : State} (h : Polled s t) : Received s t := by
  obtain ⟨ht, htick⟩ := h
  refine ⟨?_, htick⟩
  rw [ht]

theorem Received.pinMode {s t : State} (h : Received s t) : t.pinMode = s.pinMode := by rw [h.1]

/-- The triple of every receiving operation. -/
abbrev OpEnd.Receives {α : Type} (r : OpEnd α) (s : State) : Prop :=
  r.Meets (fun _ t => Received s t) (fun e t => e = .timeout ∧ Received s t) (s.pinMode = .output)

theorem OpEnd.Receives.after {α : Type} {r : OpEnd α} {s s1 : State} (h : r.Receives s1) (hs : Received s s1) : r.Receives s :=
  h.mono (fun _ _ ht => hs.trans ht) (fun _ _ ⟨he, ht⟩ => ⟨he, hs.trans ht⟩) fun hm => by rw [← hs.pinMode]; exact hm

theorem OpEnd.Listens.receives {α : Type} {r : OpEnd α} {s : State} (h : r.Listens s) : r.Receives s :=
  h.mono (fun _ _ ht => ht.received) (fun _ _ ⟨he, ht⟩ => ⟨he, ht.received⟩) id

theorem readByte_receives (s : State) : (readByte s).Receives s :=
  (readByte_meets s).mono (fun _ _ ⟨_, hu, ht⟩ => hu.received.trans (ht ▸ ⟨rfl, Nat.le_refl _⟩))
    (fun _ _ ⟨he, ht⟩ => ⟨he, ht.received⟩) id

theorem readBytes_receives (n : Nat) (s : State) : (readBytes n s).Receives s := by
  induction n generalizing s with
  | zero => exact Received.refl s
  | succ n ih =>
    refine (readByte_receives s).thenOp fun _ s1 h1 => ?_
    exact (ih s1.nextByte).after (h1.trans ⟨rfl, Nat.le_refl _⟩)

theorem endWait_listens (s : State) : (endWait s).Listens s := by
  have hwait := waitFor_listens .low s.params.endLowRetries s
  unfold endWait
  cases hw : waitFor .low s.params.endLowRetries s with
  | ok u t => rw [hw] at hwait; exact hwait
  | refused e => rw [hw] at hwait; exact hwait
  | err e t =>
    rw [hw] at hwait
    show (if t.params.frameEndStrict then OpEnd.err e t else OpEnd.ok () t).Listens s
    split
    · exact hwait
    · exact hwait.2

/-- The transaction from `t_open` on: a valid frame whose payload is published, or one of the two errors (R120, R140). -/
theorem receive_meets (s : State) :
    (receive s).Meets
      (fun _ t => ∃ u, Received s u ∧ frameValid u.frame = true ∧ t = { u with reading := framePayload u.frame })
      (fun e t => (e = .timeout ∨ e = .checksumMismatch ∧ frameValid t.frame = false) ∧ Received s t)
      (s.pinMode = .output) := by
  have hweak : ∀ {α : Type} {r : OpEnd α}, r.Receives s → r.Meets (fun _ t => Received s t)
      (fun e t => (e = .timeout ∨ e = .checksumMismatch ∧ frameValid t.frame = false) ∧ Received s t) (s.pinMode = .output) :=
    fun h => h.mono (fun _ _ ht => ht) (fun _ _ ⟨he, ht⟩ => ⟨.inl he, ht⟩) id
  refine (hweak (waitFor_listens .low _ s).receives).thenOp fun _ s1 h1 => ?_
  refine (hweak ((waitFor_listens .high _ s1).receives.after h1)).thenOp fun _ s2 h2 => ?_
  refine (hweak ((readBytes_receives _ s2).after h2)).thenOp fun _ s3 h3 => ?_
  refine (hweak ((endWait_listens s3).receives.after h3)).thenOp fun _ s4 h4 => ?_
  rcases validateFrame_cases s4.frame with ⟨hv, he⟩ | ⟨hv, he⟩ <;> rw [validateEnd, he]
  · exact ⟨s4, h4, hv, rfl⟩
  · exact ⟨.inr ⟨rfl, hv⟩, h4⟩

/-- The state at the end of the request pulse (R120). -/
def State.pulsed (s : State) : State :=
  ({ s.clearForTransaction with pinLevel := .low } : State).delayUs s.params.reqLowUs

/-- The state at `t_open`: the request and the release are over, the line is left to the sensor (R120). -/
def State.opened (s : State) : State :=
  (({ s.pulsed with pinLevel := .high } : State).delayUs s.params.relHighUs).configureInput

theorem openLine_output {s : State} (hm : s.pinMode = .output) : openLine s = .next s.opened := by
  have hm1 : s.clearForTransaction.pinMode = .output := hm
  have hm2 : s.pulsed.pinMode = .output := hm
  rw [openLine, setLevel_output hm1, andThen_next]
  show andThen (setLevel .high s.pulsed) _ = _
  rw [setLevel_output hm2]
  rfl

theorem openLine_input {s : State} (hm : s.pinMode = .input) : openLine s = .refused .setLevelInInputMode := by
  rw [openLine, setLevel_input (s := s.clearForTransaction) hm]
  rfl

/-- READ on an idle block in Output mode (R120). -/
theorem execRead_output {s : State} (hp : s.phase = Phase.idle) (hm : s.pinMode = .output) :
    exec .read s = finishRead (receive s.opened) := by
  show execRead s = _
  rw [execRead, if_pos hp, openLine_output hm]
  rfl

/-- The two ends of a READ that goes on from an idle block in Output mode. -/
theorem execRead_ends {s : State} (hp : s.phase = Phase.idle) (hm : s.pinMode = .output) :
    (∃ u, Received s.opened u ∧ frameValid u.frame = true ∧
      exec .read s =
        .next { u.restoreLine with reading := framePayload u.frame, ret := .reading (framePayload u.frame) }) ∨
    (∃ e u, (e = .timeout ∨ e = .checksumMismatch ∧ frameValid u.frame = false) ∧ Received s.opened u ∧
      exec .read s = .next { u.restoreLine with err := e, ret := .error e }) := by
  rw [execRead_output hp hm]
  have hmeets := receive_meets s.opened
  cases hr : receive s.opened with
  | ok a t =>
    rw [hr] at hmeets
    obtain ⟨u, hu, hv, rfl⟩ := hmeets
    exact .inl ⟨u, hu, hv, rfl⟩
  | err e t =>
    rw [hr] at hmeets
    exact .inr ⟨e, t, hmeets.1, hmeets.2, rfl⟩
  | refused e =>
    rw [hr] at hmeets
    cases hmeets

/-- Settles O47, by the two ends of READ. -/
theorem readCompletesFromIdle : Obligations.ReadCompletesFromIdle := by
  intro s
  refine ⟨fun hp => ?_, fun hp hm => ?_, fun hp hm => ?_⟩
  · show execRead s = _
    rw [execRead, if_neg hp]
  · show execRead s = _
    rw [execRead, if_pos hp, openLine_input hm]
    rfl
  · rcases execRead_ends hp hm with ⟨u, ⟨hu, -⟩, hv, h⟩ | ⟨e, u, he, ⟨hu, -⟩, h⟩
    · refine ⟨_, h, rfl, rfl, rfl, rfl, rfl, .inl ⟨?_, hv, rfl, rfl⟩⟩
      show u.err = _
      rw [hu]
      rfl
    · have hreading : u.reading = ⟨0, 0, 0, 0⟩ := by
        rw [hu]
        rfl
      refine ⟨_, h, rfl, rfl, rfl, rfl, rfl, .inr ?_⟩
      rcases he with rfl | ⟨rfl, hv⟩
      · exact .inl ⟨rfl, hreading, rfl⟩
      · exact .inr ⟨rfl, hv, hreading, rfl⟩

/-! ## What every operation keeps -/

/-- From `s` to `t` no parameter and nothing of the host has changed, time has not gone back, and `NoResponse` has not
come in. -/
structure Keeps (s t : State) : Prop where
  params : t.params = s.params
  task : t.task = s.task
  tick : s.env.tick ≤ t.env.tick
  err : t.err = .noResponse → s.err = .noResponse

/-- Most actions: nothing of it is touched. -/
theorem Keeps.of_eq {s t : State} (hparams : t.params = s.params) (htask : t.task = s.task) (htick : t.env.tick = s.env.tick)
    (herr : t.err = s.err ∨ t.err ≠ .noResponse) : Keeps s t :=
  ⟨hparams, htask, htick ▸ Nat.le_refl _, fun h => herr.elim (fun he => he ▸ h) fun hne => absurd h hne⟩

theorem Keeps.trans {s t u : State} (h : Keeps s t) (h' : Keeps t u) : Keeps s u :=
  ⟨h'.params.trans h.params, h'.task.trans h.task, Nat.le_trans h.tick h'.tick, fun he => h.err (h'.err he)⟩

theorem Received.keeps {s t : State} (h : Received s t) : Keeps s t := by
  obtain ⟨ht, htick⟩ := h
  exact ⟨by rw [ht], by rw [ht], htick, fun he => by rw [ht] at he; exact he⟩

theorem State.opened_keeps (s : State) : Keeps s s.opened :=
  ⟨rfl, rfl, Nat.le_trans (polled_delayUs _ s.params.reqLowUs).2 (polled_delayUs _ s.params.relHighUs).2, nofun⟩

theorem delayAction_keeps {onEnd : State → Result} {s t : State} (h : delayAction onEnd s = .next t)
    (hend : onEnd s = .next t → Keeps s t) : Keeps s t := by
  rcases delayAction_cases h with ⟨-, rfl⟩ | ⟨-, -, rfl⟩ | ⟨-, -, hn⟩
  · exact .of_eq rfl rfl rfl (.inl rfl)
  · exact .of_eq rfl rfl rfl (.inl rfl)
  · exact hend hn

theorem waitAction_keeps {g : Level} {m : BitVec 8} {f e : State → State} {s t : State}
    (h : waitAction g m f e s = .next t) (hmatch : Keeps s (f s.countPoll)) (hend : Keeps s (e s)) : Keeps s t := by
  rcases waitAction_cases g m f e s with ⟨-, h'⟩ | ⟨-, -, h'⟩ | ⟨-, -, -, h'⟩ | ⟨-, -, -, h'⟩ <;> cases h'.symm.trans h
  · exact .of_eq rfl rfl rfl (.inl rfl)
  · exact hend
  · exact hmatch
  · exact .of_eq rfl rfl rfl (.inl rfl)

theorem beginTransaction_keeps {s t : State} (h : beginTransaction s = .next t) : Keeps s t := by
  obtain ⟨-, rfl⟩ := beginTransaction_eq_next h
  exact .of_eq rfl rfl rfl (.inr nofun)

theorem State.sampleBit_keeps (s : State) : Keeps s s.sampleBit := by
  rcases s.sampleBit_cases with ⟨_, h⟩ | ⟨_, _, h⟩ | ⟨_, _, h⟩ <;> rw [h] <;> exact .of_eq rfl rfl rfl (.inl rfl)

theorem State.endWaitFailed_keeps (s : State) : Keeps s s.endWaitFailed := by
  unfold State.endWaitFailed
  split
  · exact .of_eq rfl rfl rfl (.inr nofun)
  · exact .of_eq rfl rfl rfl (.inl rfl)

theorem State.validateRegs_keeps (s : State) : Keeps s (s.validateRegs.enterPhase Phase.restore) := by
  rw [State.validateRegs_eq]
  split
  · exact .of_eq rfl rfl rfl (.inl rfl)
  · exact .of_eq rfl rfl rfl (.inr nofun)

/-- A receiving operation executed on its own. -/
theorem finishOp_keeps {α : Type} {r : OpEnd α} {v : α → OpResult} {s t : State} (hr : r.Receives s)
    (h : finishOp r v = .next t) : Keeps s t := by
  rcases finishOp_eq_next h with ⟨a, u, rfl, rfl⟩ | ⟨e, u, rfl, rfl⟩
  · exact hr.keeps.trans (.of_eq rfl rfl rfl (.inl rfl))
  · obtain ⟨rfl, hu⟩ := hr
    exact hu.keeps.trans (.of_eq rfl rfl rfl (.inr nofun))

theorem execRead_keeps {s t : State} (h : exec .read s = .next t) : Keeps s t := by
  by_cases hp : s.phase = Phase.idle
  · rcases s.pinMode_cases with hm | hm
    · rcases execRead_ends hp hm with ⟨u, hu, -, h'⟩ | ⟨e, u, he, hu, h'⟩ <;> cases h'.symm.trans h
      · exact (s.opened_keeps.trans hu.keeps).trans (.of_eq rfl rfl rfl (.inl rfl))
      · refine (s.opened_keeps.trans hu.keeps).trans (.of_eq rfl rfl rfl (.inr ?_))
        rcases he with rfl | ⟨rfl, -⟩ <;> exact nofun
    · cases ((readCompletesFromIdle s).2.1 hp hm).symm.trans h
  · cases ((readCompletesFromIdle s).1 hp).symm.trans h
    exact .of_eq rfl rfl rfl (.inl rfl)

/-- What every operation but the host's keeps. -/
theorem exec_keeps {i : Instr} {s t : State} (hi : ∀ ms, i ≠ .periodicTask ms) (h : exec i s = .next t) : Keeps s t := by
  cases i with
  | idle =>
    rcases execIdle_cases h with ⟨-, rfl⟩ | ⟨-, hb⟩
    · exact .of_eq rfl rfl rfl (.inl rfl)
    · exact beginTransaction_keeps hb
  | reqLow =>
    refine delayAction_keeps (show execReqLow s = .next t from h) fun hend => ?_
    obtain ⟨-, rfl⟩ := reqLowEnd_eq_next hend
    exact .of_eq rfl rfl rfl (.inl rfl)
  | relHigh =>
    refine delayAction_keeps (show execRelHigh s = .next t from h) fun hend => ?_
    cases hend
    exact .of_eq rfl rfl rfl (.inl rfl)
  | bitDelay =>
    refine delayAction_keeps (show execBitDelay s = .next t from h) fun hend => ?_
    cases hend
    exact s.sampleBit_keeps
  | ackWaitLow =>
    exact waitAction_keeps (show execAckWaitLow s = .next t from h) (.of_eq rfl rfl rfl (.inl rfl)) (.of_eq rfl rfl rfl (.inr nofun))
  | ackWaitHigh =>
    exact waitAction_keeps (show execAckWaitHigh s = .next t from h) (.of_eq rfl rfl rfl (.inl rfl)) (.of_eq rfl rfl rfl (.inr nofun))
  | bitWaitLow =>
    exact waitAction_keeps (show execBitWaitLow s = .next t from h) (.of_eq rfl rfl rfl (.inl rfl)) (.of_eq rfl rfl rfl (.inr nofun))
  | bitWaitHigh =>
    exact waitAction_keeps (show execBitWaitHigh s = .next t from h) (.of_eq rfl rfl rfl (.inl rfl)) (.of_eq rfl rfl rfl (.inr nofun))
  | endWaitLow =>
    exact waitAction_keeps (show execEndWaitLow s = .next t from h) (.of_eq rfl rfl rfl (.inl rfl)) s.endWaitFailed_keeps
  | validate => exact Host.Outcome.next.inj h ▸ s.validateRegs_keeps
  | restore => exact Host.Outcome.next.inj h ▸ .of_eq rfl rfl rfl (.inl rfl)
  | reserved1011 => cases h
  | reserved11xx low => cases h
  | start =>
    by_cases hp : s.phase = Phase.idle
    · exact beginTransaction_keeps (by rw [← h]; exact (if_pos hp).symm)
    · cases ((startIgnoredOrRefused s).2.1 hp).symm.trans h
      exact .of_eq rfl rfl rfl (.inl rfl)
  | delayUs n => exact Host.Outcome.next.inj h ▸ (polled_delayUs s n).received.keeps
  | configureOutput => exact Host.Outcome.next.inj h ▸ .of_eq rfl rfl rfl (.inl rfl)
  | configureInput => exact Host.Outcome.next.inj h ▸ .of_eq rfl rfl rfl (.inl rfl)
  | setLevel v =>
    obtain ⟨-, rfl⟩ := setLevel_eq_next h
    exact .of_eq rfl rfl rfl (.inl rfl)
  | readLevel => exact finishOp_keeps (readLevel_listens s).receives h
  | waitForLevel g m => exact finishOp_keeps (waitFor_listens g m s).receives h
  | readBit => exact finishOp_keeps (readBit_listens s).receives h
  | readByte => exact finishOp_keeps (readByte_receives s) h
  | read => exact execRead_keeps h
  | validateFrame f =>
    cases ((validateFrameAnswersByTheChecksum f s).1).symm.trans h
    exact .of_eq rfl rfl rfl (.inl rfl)
  | humidity r => exact Host.Outcome.next.inj h ▸ .of_eq rfl rfl rfl (.inl rfl)
  | temperature r => exact Host.Outcome.next.inj h ▸ .of_eq rfl rfl rfl (.inl rfl)
  | periodicTask ms => exact absurd rfl (hi ms)

/-- PERIODIC_TASK writes the task and nothing else. -/
theorem periodicTask_eq_next {ms : Nat} {s t : State} (h : exec (.periodicTask ms) s = .next t) :
    t = { s with task := t.task } := by
  obtain ⟨hspawn, hshort, howned⟩ := periodicTaskIsSpawnedOnce ms s
  by_cases hms : ms < 2000
  · cases (hshort hms).symm.trans h
  · by_cases hm : s.task.mode = .notSpawned
    · cases (hspawn (by omega) hm).symm.trans h
      rfl
    · cases (howned (by omega) hm).symm.trans h

/-- Settles O11. -/
theorem operationsKeepParametersAndHost : Obligations.OperationsKeepParametersAndHost := by
  intro i s t h
  by_cases hi : ∀ ms, i ≠ .periodicTask ms
  · have hk := exec_keeps hi h
    exact ⟨hk.params, fun _ => hk.task, hk.tick⟩
  · obtain ⟨ms, rfl⟩ : ∃ ms, i = .periodicTask ms := by simpa using hi
    rw [periodicTask_eq_next h]
    exact ⟨rfl, fun hne => absurd rfl (hne ms), Nat.le_refl _⟩

theorem exec_err {i : Instr} {s t : State} (h : exec i s = .next t) (he : t.err = .noResponse) : s.err = .noResponse := by
  by_cases hi : ∀ ms, i ≠ .periodicTask ms
  · exact (exec_keeps hi h).err he
  · obtain ⟨ms, rfl⟩ : ∃ ms, i = .periodicTask ms := by simpa using hi
    rw [periodicTask_eq_next h] at he
    exact he

theorem step_err {s t : State} (h : step s = .next t) (he : t.err = .noResponse) : s.err = .noResponse := by
  rcases step_cases h with ⟨-, rfl⟩ | ⟨-, u, hu, rfl⟩
  · cases he
  · exact runActions_keeps (P := fun v => v.err = .noResponse → s.err = .noResponse) (s := s.beginTick)
      (fun v w hv ha hw => hv (exec_err (exec_of_acts ha) hw)) (fun hs => hs) hu he

/-- Settles O31: no operation brings `NoResponse` in, so no tick does, so no run from reset. -/
theorem noResponseIsNeverProduced : Obligations.NoResponseIsNeverProduced := by
  refine ⟨fun _ _ _ => exec_err, fun _ _ => step_err, fun n t h => ?_⟩
  exact runTicks_keeps (P := fun s => s.err ≠ .noResponse) (fun _ _ hs hstep he => hs (step_err hstep he)) (by decide) h

end Sys2Proof.Machine
end

section
/-! READ forgets what it found (R180, R205), and how long it may take (R146). -/

namespace Sys2Proof

/-- The ticks one bit may take. -/
def Params.bitTicks (p : Params) : Nat :=
  (p.bitLowRetries.toNat - 1) + ((p.bitHighRetries.toNat - 1) + p.sampleDelayUs.toNat)

/-- The ticks from `t_open` to the last bit (R146 (b)). -/
def Params.bytesTicks (p : Params) : Nat :=
  (p.ackLowRetries.toNat - 1) + ((p.ackHighRetries.toNat - 1) + 5 * (8 * p.bitTicks))

/-- R146 (b), by the parts of a transaction. -/
theorem Params.greatestDuration_eq (p : Params) :
    p.greatestDuration = p.leastDuration + (p.bytesTicks + p.endLowRetries.toNat) := by
  simp only [Params.greatestDuration, Params.leastDuration, Params.bytesTicks, Params.bitTicks]
  omega

end Sys2Proof

namespace Sys2Proof.Machine

/-! ## The result field passes through a transaction unread -/

/-- The state with another result field. -/
def State.withRet (s : State) (r : OpResult) : State := { s with ret := r }

/-- The end of an operation with another result field in its state. -/
def OpEnd.withRet {α : Type} (x : OpEnd α) (r : OpResult) : OpEnd α :=
  match x with
  | .ok a s => .ok a (s.withRet r)
  | .err e s => .err e (s.withRet r)
  | .refused e => .refused e

theorem thenOp_withRet {α β : Type} (x : OpEnd α) (r : OpResult) {f : α → State → OpEnd β}
    (hf : ∀ a s, f a (s.withRet r) = (f a s).withRet r) : thenOp (x.withRet r) f = (thenOp x f).withRet r := by
  cases x with
  | ok a s => exact hf a s
  | err e s => rfl
  | refused e => rfl

theorem readLevel_withRet (s : State) (r : OpResult) : readLevel (s.withRet r) = (readLevel s).withRet r := by
  rcases s.pinMode_cases with hm | hm
  · rw [readLevel_output hm, readLevel_output (s := s.withRet r) hm]
    rfl
  · rw [readLevel_input hm, readLevel_input (s := s.withRet r) hm]
    rfl

theorem waitLoop_withRet (g : Level) (m : Nat) (s : State) (r : OpResult) :
    waitLoop g m (s.withRet r) = (waitLoop g m s).withRet r := by
  induction m generalizing s with
  | zero => rfl
  | succ m ih =>
    rw [waitLoop, waitLoop, readLevel_withRet]
    refine thenOp_withRet _ r fun l s => ?_
    simp only []
    split
    · rfl
    · exact ih (s.countPoll.passTicks 1)

theorem waitFor_withRet (g : Level) (m : BitVec 8) (s : State) (r : OpResult) :
    waitFor g m (s.withRet r) = (waitFor g m s).withRet r :=
  waitLoop_withRet g m.toNat { s with retry := 0 } r

theorem readBit_withRet (s : State) (r : OpResult) : readBit (s.withRet r) = (readBit s).withRet r := by
  rw [readBit, readBit, waitFor_withRet]
  refine thenOp_withRet _ r fun _ s1 => ?_
  rw [waitFor_withRet]
  refine thenOp_withRet _ r fun _ s2 => ?_
  exact (congrArg (thenOp · _) (readLevel_withRet (s2.delayUs s2.params.sampleDelayUs) r)).trans
    (thenOp_withRet _ r fun _ _ => rfl)

theorem readBits_withRet (n : Nat) (s : State) (r : OpResult) : readBits n (s.withRet r) = (readBits n s).withRet r := by
  induction n generalizing s with
  | zero => rfl
  | succ n ih =>
    rw [readBits, readBits, readBit_withRet]
    exact thenOp_withRet _ r fun b s1 => ih (s1.keepBit b)

theorem readByte_withRet (s : State) (r : OpResult) : readByte (s.withRet r) = (readByte s).withRet r :=
  (congrArg (thenOp · _) (readBits_withRet _ { s with acc := 0, bitIdx := 0 } r)).trans (thenOp_withRet _ r fun _ _ => rfl)

theorem readBytes_withRet (n : Nat) (s : State) (r : OpResult) : readBytes n (s.withRet r) = (readBytes n s).withRet r := by
  induction n generalizing s with
  | zero => rfl
  | succ n ih =>
    rw [readBytes, readBytes, readByte_withRet]
    exact thenOp_withRet _ r fun _ s1 => ih s1.nextByte

theorem endWait_withRet (s : State) (r : OpResult) : endWait (s.withRet r) = (endWait s).withRet r := by
  have hwait : waitFor .low (s.withRet r).params.endLowRetries (s.withRet r) =
      (waitFor .low s.params.endLowRetries s).withRet r := waitFor_withRet ..
  unfold endWait
  rw [hwait]
  cases waitFor .low s.params.endLowRetries s with
  | ok u s1 => rfl
  | refused e => rfl
  | err e s1 =>
    show (if s1.params.frameEndStrict then _ else _) = OpEnd.withRet (if s1.params.frameEndStrict then _ else _) r
    split <;> rfl

theorem validateEnd_withRet (s : State) (r : OpResult) : validateEnd (s.withRet r) = (validateEnd s).withRet r := by
  rcases validateFrame_cases s.frame with ⟨-, h⟩ | ⟨-, h⟩
  · rw [validateEnd, validateEnd, show validateFrame (s.withRet r).frame = _ from h, h]
    rfl
  · rw [validateEnd, validateEnd, show validateFrame (s.withRet r).frame = _ from h, h]
    rfl

theorem receive_withRet (s : State) (r : OpResult) : receive (s.withRet r) = (receive s).withRet r := by
  rw [receive, receive, waitFor_withRet]
  refine thenOp_withRet _ r fun _ s1 => ?_
  rw [waitFor_withRet]
  refine thenOp_withRet _ r fun _ s2 => ?_
  rw [readBytes_withRet]
  refine thenOp_withRet _ r fun _ s3 => ?_
  rw [endWait_withRet]
  exact thenOp_withRet _ r fun _ s4 => validateEnd_withRet s4 r

/-- The answer of READ overwrites the result field. -/
theorem finishRead_withRet (x : OpEnd Unit) (r : OpResult) : finishRead (x.withRet r) = finishRead x := by
  cases x <;> rfl

/-- The first wait clears `retry`, whatever it was (R100). -/
theorem receive_retry (s : State) (n : BitVec 8) : receive { s with retry := n } = receive s := rfl

/-- At `t_open` two transactions from idle states that share parameters, environment and host differ in `retry` and the
result field alone: Begin has cleared the rest (R131, R180). -/
theorem State.opened_eq {s u : State} (hphase : s.phase = u.phase) (hparams : s.params = u.params) (henv : s.env = u.env)
    (htask : s.task = u.task) : s.opened = ({ u.opened with retry := s.retry } : State).withRet s.ret := by
  cases s
  cases u
  simp only at hphase hparams henv htask
  subst hphase hparams henv htask
  rfl

/-- Settles O46: the two transactions are equal from `t_open` on, but for what they overwrite. -/
theorem readForgetsTheLastTransaction : Obligations.ReadForgetsTheLastTransaction := by
  intro s u hs hu hmode hparams henv htask
  rcases s.pinMode_cases with hm | hm
  · rw [execRead_output hs hm, execRead_output hu (hmode ▸ hm), State.opened_eq (hs.trans hu.symm) hparams henv htask,
      receive_withRet, finishRead_withRet, receive_retry]
  · rw [(readCompletesFromIdle s).2.1 hs hm, (readCompletesFromIdle u).2.1 hu (hmode ▸ hm)]

/-! ## Durations -/

/-- From `s` to `t` at most `n` ticks have passed, delays stay exact, and the parameters are the same. -/
def Elapsed (s t : State) (n : Nat) : Prop := t.Exact ∧ t.params = s.params ∧ t.env.tick ≤ s.env.tick + n

theorem Elapsed.trans {s t u : State} {m n : Nat} (h : Elapsed s t m) (h' : Elapsed t u n) : Elapsed s u (m + n) := by
  obtain ⟨-, hparams, htick⟩ := h
  obtain ⟨hexact, hparams', htick'⟩ := h'
  exact ⟨hexact, hparams'.trans hparams, by omega⟩

theorem Elapsed.mono {s t : State} {m n : Nat} (h : Elapsed s t m) (hle : m ≤ n) : Elapsed s t n :=
  ⟨h.1, h.2.1, Nat.le_trans h.2.2 (Nat.add_le_add_left hle _)⟩

theorem elapsed_passTicks {s : State} (h : s.Exact) (n : Nat) : Elapsed s (s.passTicks n) n :=
  ⟨⟨h.1, rfl⟩, rfl, by rw [State.passTicks_exact h.1 h.2]; exact Nat.le_refl _⟩

theorem elapsed_delayUs {s : State} (h : s.Exact) (n : BitVec 15) : Elapsed s (s.delayUs n) n.toNat :=
  elapsed_passTicks h n.toNat

/-- The operation takes at most `n` ticks if it succeeds, and at most one more if it fails: a bounded wait fails one tick
after its last poll. -/
abbrev OpEnd.Within {α : Type} (r : OpEnd α) (s : State) (n : Nat) : Prop :=
  r.Meets (fun _ t => Elapsed s t n) (fun _ t => Elapsed s t (n + 1)) True

theorem OpEnd.Within.after {α : Type} {r : OpEnd α} {s s1 : State} {m n : Nat} (h : r.Within s1 n) (hs : Elapsed s s1 m) :
    r.Within s (m + n) :=
  h.mono (fun _ _ ht => hs.trans ht) (fun _ _ ht => hs.trans ht) id

/-- Durations add up in a sequence. -/
theorem OpEnd.Within.thenOp {α β : Type} {r : OpEnd α} {f : α → State → OpEnd β} {s : State} {m n : Nat} (h : r.Within s m)
    (hf : ∀ a t, Elapsed s t m → (f a t).Within t n) : (Machine.thenOp r f).Within s (m + n) := by
  have h' : r.Meets (fun _ t => Elapsed s t m) (fun _ t => Elapsed s t (m + n + 1)) True :=
    OpEnd.Meets.mono h (fun _ _ ht => ht) (fun _ _ ht => ht.mono (by omega)) id
  exact h'.thenOp fun a t ht => (hf a t ht).after ht

theorem waitLoop_within (g : Level) (m : Nat) {s : State} (h : s.Exact) : (waitLoop g (m + 1) s).Within s m := by
  induction m generalizing s with
  | zero =>
    rcases s.pinMode_cases with hm | hm
    · simp only [waitLoop, readLevel_output hm, thenOp_refused]
      trivial
    · rw [waitLoop_succ hm]
      split
      · exact ⟨h, rfl, Nat.le_refl _⟩
      · exact elapsed_passTicks (s := s.countPoll) h 1
  | succ m ih =>
    rcases s.pinMode_cases with hm | hm
    · simp only [waitLoop, readLevel_output hm, thenOp_refused]
      trivial
    · rw [waitLoop_succ hm]
      split
      · exact ⟨h, rfl, Nat.le_add_right _ _⟩
      · have hone := elapsed_passTicks (s := s.countPoll) h 1
        have := (ih hone.1).after (s := s) (m := 1) hone
        rwa [Nat.add_comm 1 m] at this

/-- A wait with a limit of at least 1: the last poll is one tick before the limit runs out (R100). -/
theorem waitFor_within (g : Level) {m : BitVec 8} {s : State} (h : s.Exact) (hm : 1 ≤ m.toNat) :
    (waitFor g m s).Within s (m.toNat - 1) := by
  have := waitLoop_within g (m.toNat - 1) (s := { s with retry := 0 }) h
  rwa [Nat.sub_add_cancel hm] at this

theorem readBit_within {s : State} (h : s.Exact) (hp : s.params.LimitsPositive) : (readBit s).Within s s.params.bitTicks := by
  obtain ⟨-, -, hlow, hhigh, -⟩ := hp
  refine (waitFor_within .low h hlow).thenOp fun _ s1 h1 => ?_
  rw [← h1.2.1] at hhigh ⊢
  refine (waitFor_within .high h1.1 hhigh).thenOp fun _ s2 h2 => ?_
  rw [← h2.2.1]
  have hdelay := elapsed_delayUs h2.1 s2.params.sampleDelayUs
  have hread : (readLevel (s2.delayUs s2.params.sampleDelayUs)).Within s2 (s2.params.sampleDelayUs.toNat + 0) := by
    refine OpEnd.Within.after ?_ hdelay
    rcases (s2.delayUs s2.params.sampleDelayUs).pinMode_cases with hm | hm
    · rw [readLevel_output hm]
      trivial
    · rw [readLevel_input hm]
      exact ⟨hdelay.1, rfl, Nat.le_refl _⟩
  exact hread.thenOp (n := 0) fun _ s3 h3 => ⟨h3.1, rfl, Nat.le_refl _⟩

theorem readBits_within (n : Nat) {s : State} (h : s.Exact) (hp : s.params.LimitsPositive) :
    (readBits n s).Within s (n * s.params.bitTicks) := by
  induction n generalizing s with
  | zero => exact ⟨h, rfl, Nat.le_add_right _ _⟩
  | succ n ih =>
    rw [Nat.succ_mul, Nat.add_comm (n * _)]
    refine (readBit_within h hp).thenOp fun b s1 h1 => ?_
    rw [← h1.2.1] at hp ⊢
    exact ih (s := s1.keepBit b) h1.1 hp

theorem readByte_within {s : State} (h : s.Exact) (hp : s.params.LimitsPositive) :
    (readByte s).Within s (8 * s.params.bitTicks) := by
  have hbits : (readBits Config.bitsPerByte { s with acc := 0, bitIdx := 0 }).Within s (8 * s.params.bitTicks) :=
    readBits_within 8 (s := { s with acc := 0, bitIdx := 0 }) h hp
  exact hbits.thenOp (n := 0) fun _ s1 h1 => ⟨h1.1, rfl, Nat.le_refl _⟩

theorem readBytes_within (n : Nat) {s : State} (h : s.Exact) (hp : s.params.LimitsPositive) :
    (readBytes n s).Within s (n * (8 * s.params.bitTicks)) := by
  induction n generalizing s with
  | zero => exact ⟨h, rfl, Nat.le_add_right _ _⟩
  | succ n ih =>
    rw [Nat.succ_mul, Nat.add_comm (n * _)]
    refine (readByte_within h hp).thenOp fun _ s1 h1 => ?_
    rw [← h1.2.1] at hp ⊢
    exact ih (s := s1.nextByte) h1.1 hp

/-- The wait for the end of the frame may fail, strict or soft, only when its limit has run out (R139). -/
theorem endWait_meets {s : State} (h : s.Exact) (hm : 1 ≤ s.params.endLowRetries.toNat) :
    (endWait s).Meets (fun _ t => Elapsed s t s.params.endLowRetries.toNat)
      (fun _ t => Elapsed s t s.params.endLowRetries.toNat) True := by
  have hwait := waitFor_within .low h hm
  rw [OpEnd.Within, Nat.sub_add_cancel hm] at hwait
  unfold endWait
  cases hw : waitFor .low s.params.endLowRetries s with
  | ok u t => rw [hw] at hwait; exact Elapsed.mono hwait (Nat.sub_le _ _)
  | refused e => trivial
  | err e t =>
    rw [hw] at hwait
    show OpEnd.Meets (if t.params.frameEndStrict then OpEnd.err e t else OpEnd.ok () t) _ _ _
    split <;> exact hwait

theorem thenOp_assoc {α β γ : Type} (r : OpEnd α) (f : α → State → OpEnd β) (g : β → State → OpEnd γ) :
    thenOp (thenOp r f) g = thenOp r fun a s => thenOp (f a s) g := by
  cases r <;> rfl

/-- States 4 and 5 of the source: the acknowledge and the forty bits (R120). -/
def receiveBytes (s : State) : OpEnd Unit :=
  thenOp (waitFor .low s.params.ackLowRetries s) fun _ s1 =>
    thenOp (waitFor .high s1.params.ackHighRetries s1) fun _ s2 => readBytes Config.frameBytes s2

theorem receive_eq (s : State) :
    receive s = thenOp (receiveBytes s) fun _ s3 => thenOp (endWait s3) fun _ s4 => validateEnd s4 := by
  simp only [receiveBytes, thenOp_assoc]
  rfl

theorem receiveBytes_within {s : State} (h : s.Exact) (hp : s.params.LimitsPositive) :
    (receiveBytes s).Within s s.params.bytesTicks := by
  refine (waitFor_within .low h hp.1).thenOp fun _ s1 h1 => ?_
  rw [← h1.2.1] at hp ⊢
  refine (waitFor_within .high h1.1 hp.2.1).thenOp fun _ s2 h2 => ?_
  rw [← h2.2.1] at hp ⊢
  exact readBytes_within 5 h2.1 hp

/-- After `t_open` a transaction takes at most the ticks of R146 (b), whatever its end. -/
theorem receive_ticks {s : State} (h : s.Exact) (hp : s.params.LimitsPositive) :
    (receive s).Meets (fun _ t => t.env.tick ≤ s.env.tick + (s.params.bytesTicks + s.params.endLowRetries.toNat))
      (fun _ t => t.env.tick ≤ s.env.tick + (s.params.bytesTicks + s.params.endLowRetries.toNat)) True := by
  have hend : 1 ≤ s.params.endLowRetries.toNat := hp.2.2.2.2
  have hbytes : (receiveBytes s).Meets (fun _ t => Elapsed s t s.params.bytesTicks)
      (fun _ t => t.env.tick ≤ s.env.tick + (s.params.bytesTicks + s.params.endLowRetries.toNat)) True :=
    (receiveBytes_within h hp).mono (fun _ _ ht => ht) (fun _ _ ht => (ht.mono (by omega)).2.2) id
  rw [receive_eq]
  refine hbytes.thenOp fun _ s3 h3 => ?_
  obtain ⟨hexact, hparams, htick⟩ := h3
  have hlast : ∀ t, Elapsed s3 t s.params.endLowRetries.toNat →
      t.env.tick ≤ s.env.tick + (s.params.bytesTicks + s.params.endLowRetries.toNat) := fun t ⟨_, _, htick'⟩ => by omega
  have hwait := endWait_meets hexact (by rw [hparams]; exact hend)
  rw [hparams] at hwait
  refine OpEnd.Meets.thenOp (hwait.mono (fun _ t ht => hlast t ht) (fun _ t ht => hlast t ht) id) fun _ s4 h4 => ?_
  rcases validateFrame_cases s4.frame with ⟨-, he⟩ | ⟨-, he⟩ <;> rw [validateEnd, he] <;> exact h4

theorem State.opened_exact {s : State} (h : s.Exact) :
    s.opened.Exact ∧ s.opened.env = (s.elapse (s.params.reqLowUs.toNat + s.params.relHighUs.toNat)).env := by
  refine ⟨⟨h.1, rfl⟩, ?_⟩
  simp [State.opened, State.pulsed, State.slackDrawn_exact, State.drawsAfter_exact, h.1, h.2, Nat.add_assoc]

theorem State.delayUs_tick_ge (s : State) (n : BitVec 15) : s.env.tick + n.toNat ≤ (s.delayUs n).env.tick :=
  Nat.add_le_add_left (Nat.le_add_right _ _) _

/-- A READ that goes on from an idle block lasts at least the request and the release (R146 (a)). -/
theorem execRead_least {s t : State} (hp : s.phase = Phase.idle) (hm : s.pinMode = .output) (h : exec .read s = .next t) :
    s.env.tick + s.params.leastDuration ≤ t.env.tick := by
  have hopen : s.env.tick + s.params.leastDuration ≤ s.opened.env.tick := by
    rw [Params.leastDuration, ← Nat.add_assoc]
    exact Nat.le_trans (Nat.add_le_add_right (State.delayUs_tick_ge _ _) _) (State.delayUs_tick_ge _ _)
  rcases execRead_ends hp hm with ⟨u, ⟨-, htick⟩, -, h'⟩ | ⟨e, u, -, ⟨-, htick⟩, h'⟩ <;> cases h'.symm.trans h
  · exact Nat.le_trans hopen htick
  · exact Nat.le_trans hopen htick

/-- On exact delays it lasts at most the bound of R146 (b). -/
theorem execRead_greatest {s t : State} (hp : s.phase = Phase.idle) (hm : s.pinMode = .output) (hexact : s.Exact)
    (hlimits : s.params.LimitsPositive) (h : exec .read s = .next t) :
    t.env.tick ≤ s.env.tick + s.params.greatestDuration := by
  obtain ⟨hopen, henv⟩ := State.opened_exact hexact
  have hticks := receive_ticks hopen (show s.opened.params.LimitsPositive from hlimits)
  have hstart : s.opened.env.tick = s.env.tick + s.params.leastDuration := by rw [henv]; rfl
  rw [hstart, Nat.add_assoc, show s.opened.params = s.params from rfl, ← Params.greatestDuration_eq] at hticks
  rw [execRead_output hp hm] at h
  cases hr : receive s.opened with
  | ok a u => rw [hr] at h hticks; cases h; exact hticks
  | err e u => rw [hr] at h hticks; cases h; exact hticks
  | refused e => rw [hr] at h; cases h

/-- Settles O48: the request and the release, and the durations of the waits added up. -/
theorem readDurationIsBounded : Obligations.ReadDurationIsBounded := by
  intro s t hp hexact h
  rcases s.pinMode_cases with hm | hm
  · exact ⟨execRead_least hp hm h, fun hlimits => execRead_greatest hp hm hexact hlimits h⟩
  · cases ((readCompletesFromIdle s).2.1 hp hm).symm.trans h

end Sys2Proof.Machine
end

section
/-! The listening operations on exact delays: where a wait ends, and what a bit is (R100, R110, R111, R171). -/

namespace Sys2Proof.Machine

/-! ## The wait -/

/-- `n` ticks later, with another poll count. -/
def State.waited (s : State) (n : Nat) (r : BitVec 8) : State := { s.elapse n with retry := r }

theorem State.Exact.waited {s : State} (h : s.Exact) (n : Nat) (r : BitVec 8) : (s.waited n r).Exact := h

@[simp] theorem State.sensorAt_waited (s : State) (n : Nat) (r : BitVec 8) (k : Nat) :
    (s.waited n r).sensorAt k = s.sensorAt (n + k) := s.sensorAt_elapse n k

@[simp] theorem State.waited_waited (s : State) (m n : Nat) (r r' : BitVec 8) :
    (s.waited m r).waited n r' = s.waited (m + n) r' := by
  simp [State.waited, State.elapse, Nat.add_assoc]

/-- One mismatching poll on exact delays: the next one is a tick later (R100). -/
theorem waitLoop_mismatch {g : Level} {m : Nat} {s : State} (hm : s.pinMode = .input) (h : s.Exact) (hne : s.sensorAt 0 ≠ g) :
    waitLoop g (m + 1) s = waitLoop g m (s.waited 1 (s.retry + 1)) := by
  rw [waitLoop_succ hm, ← s.sensorAt_zero, if_neg hne]
  exact congrArg (waitLoop g m) (State.passTicks_exact (s := s.countPoll) h.1 h.2 1)

/-- The first match, within the limit, ends the wait `k` ticks later (R100). -/
theorem waitLoop_match {g : Level} {m k : Nat} {s : State} (hm : s.pinMode = .input) (h : s.Exact) (hk : k < m)
    (hmatch : s.sensorAt k = g) (hbefore : ∀ j, j < k → s.sensorAt j ≠ g) :
    waitLoop g m s = .ok () (s.waited k (s.retry + BitVec.ofNat 8 (k + 1))) := by
  induction k generalizing s m with
  | zero =>
    obtain ⟨m, rfl⟩ : ∃ n, m = n + 1 := ⟨m - 1, by omega⟩
    rw [waitLoop_succ hm, ← s.sensorAt_zero, if_pos hmatch]
    rfl
  | succ k ih =>
    obtain ⟨m, rfl⟩ : ∃ n, m = n + 1 := ⟨m - 1, by omega⟩
    rw [waitLoop_mismatch hm h (hbefore 0 (by omega)), ih (s := s.waited 1 (s.retry + 1)) hm h (by omega)]
    · have hone : (1 : BitVec 8) = BitVec.ofNat 8 1 := rfl
      rw [State.waited_waited, Nat.add_comm 1 k]
      show OpEnd.ok () (s.waited (k + 1) (s.retry + 1 + BitVec.ofNat 8 (k + 1))) = _
      rw [BitVec.add_assoc, hone, ← BitVec.ofNat_add, Nat.add_comm 1 (k + 1)]
    · rw [State.sensorAt_waited, Nat.add_comm]
      exact hmatch
    · intro j hj
      rw [State.sensorAt_waited, Nat.add_comm]
      exact hbefore (j + 1) (by omega)

/-- With no match the wait ends when its limit has run out (R100). -/
theorem waitLoop_timeout {g : Level} {m : Nat} {s : State} (hm : s.pinMode = .input) (h : s.Exact)
    (hnone : ∀ j, j < m → s.sensorAt j ≠ g) :
    waitLoop g m s = .err .timeout (s.waited m (s.retry + BitVec.ofNat 8 m)) := by
  induction m generalizing s with
  | zero =>
    have hzero : s.retry + BitVec.ofNat 8 0 = s.retry := BitVec.add_zero s.retry
    rw [waitLoop_zero, hzero]
    rfl
  | succ m ih =>
    have hone : (1 : BitVec 8) = BitVec.ofNat 8 1 := rfl
    rw [waitLoop_mismatch hm h (hnone 0 (by omega)), ih (s := s.waited 1 (s.retry + 1)) hm h, State.waited_waited,
      Nat.add_comm 1 m]
    · show OpEnd.err _ (s.waited (m + 1) (s.retry + 1 + BitVec.ofNat 8 m)) = _
      rw [BitVec.add_assoc, hone, ← BitVec.ofNat_add, Nat.add_comm 1 m]
    · intro j hj
      rw [State.sensorAt_waited, Nat.add_comm]
      exact hnone (j + 1) (by omega)

theorem waitFor_match {g : Level} {m : BitVec 8} {k : Nat} {s : State} (hm : s.pinMode = .input) (h : s.Exact)
    (hk : k < m.toNat) (hmatch : s.sensorAt k = g) (hbefore : ∀ j, j < k → s.sensorAt j ≠ g) :
    waitFor g m s = .ok () (s.waited k (BitVec.ofNat 8 (k + 1))) := by
  have hloop := waitLoop_match (s := { s with retry := 0 }) hm h hk hmatch hbefore
  rw [show ({ s with retry := 0 } : State).retry = 0#8 from rfl, BitVec.zero_add] at hloop
  exact hloop

theorem waitFor_timeout {g : Level} {m : BitVec 8} {s : State} (hm : s.pinMode = .input) (h : s.Exact)
    (hnone : ∀ j, j < m.toNat → s.sensorAt j ≠ g) : waitFor g m s = .err .timeout (s.waited m.toNat m) := by
  have hloop := waitLoop_timeout (s := { s with retry := 0 }) hm h hnone
  rw [show ({ s with retry := 0 } : State).retry = 0#8 from rfl, BitVec.zero_add, BitVec.ofNat_toNat, BitVec.setWidth_eq] at hloop
  exact hloop

/-- Settles O36, with the two ends of the wait. -/
theorem waitForLevelIsBounded : Obligations.WaitForLevelIsBounded := by
  intro s g m hm h
  show (∀ k, _ → _ → _ → finishOp (waitFor g m s) _ = _) ∧ (_ → finishOp (waitFor g m s) _ = _)
  refine ⟨fun k hk hmatch hbefore => ?_, fun hnone => ?_⟩
  · rw [waitFor_match hm h hk hmatch hbefore]
    rfl
  · rw [waitFor_timeout hm h hnone]
    rfl

/-! ## The bit -/

theorem ne_low_of_high {l : Level} (h : l = .high) : l ≠ .low := by rw [h]; decide
theorem ne_high_of_low {l : Level} (h : l = .low) : l ≠ .high := by rw [h]; decide

/-- `n` ticks later, with a poll count, and the delay's counter run down. -/
def State.sampled (s : State) (n : Nat) (r : BitVec 8) : State := { s.waited n r with timer := 0 }

/-- The fixed delay after a wait, on exact delays. -/
theorem State.delayUs_waited {s : State} (h : s.Exact) (n : Nat) (r : BitVec 8) (d : BitVec 15) :
    (s.waited n r).delayUs d = s.sampled (n + d.toNat) r := by
  rw [State.delayUs, State.passTicks_exact (s := s.waited n r) h.1 h.2]
  show ({ (s.waited n r).waited d.toNat r with timer := 0 } : State) = _
  rw [State.waited_waited]
  rfl

/-- READ_BIT: the low, the high after it, and one sample (R110). -/
theorem readBit_eq {s : State} {a b : Nat} (hm : s.pinMode = .input) (h : s.Exact)
    (ha : a < s.params.bitLowRetries.toNat) (hlow : s.sensorAt a = .low) (hhigh : ∀ j, j < a → s.sensorAt j = .high)
    (hb : b < s.params.bitHighRetries.toNat) (hrise : s.sensorAt (a + b) = .high)
    (hlows : ∀ j, j < b → s.sensorAt (a + j) = .low) :
    readBit s = .ok (s.sensorAt (a + b + s.params.sampleDelayUs.toNat)).code
      (s.sampled (a + b + s.params.sampleDelayUs.toNat) (BitVec.ofNat 8 (b + 1))) := by
  rw [readBit, waitFor_match hm h ha hlow fun j hj => ne_low_of_high (hhigh j hj), thenOp_ok]
  rw [waitFor_match (s := s.waited a _) (m := (s.waited a _).params.bitHighRetries) hm h hb (by rw [State.sensorAt_waited]; exact hrise)
    (fun j hj => ne_high_of_low (by rw [State.sensorAt_waited]; exact hlows j hj)), thenOp_ok, State.waited_waited,
    State.delayUs_waited h]
  rw [readLevel_input (s := State.sampled ..) hm, thenOp_ok]
  rfl

/-- Settles O37. -/
theorem readBitIsOneSample : Obligations.ReadBitIsOneSample := by
  intro s a b hm h ha hlow hhigh hb hrise hlows
  show finishOp (readBit s) _ = _
  rw [readBit_eq hm h ha hlow hhigh hb hrise hlows]
  rfl

/-- Settles O38: the wait that is not met, the first or the second. -/
theorem readBitTimesOut : Obligations.ReadBitTimesOut := by
  intro s hm h
  show (_ → finishOp (readBit s) _ = _) ∧ (∀ a, _ → _ → _ → _ → finishOp (readBit s) _ = _)
  refine ⟨fun hhigh => ?_, fun a ha hlow hhigh hlows => ?_⟩
  · rw [readBit, waitFor_timeout hm h fun j hj => ne_low_of_high (hhigh j hj)]
    rfl
  · rw [readBit, waitFor_match hm h ha hlow fun j hj => ne_low_of_high (hhigh j hj), thenOp_ok,
      waitFor_timeout (s := s.waited a _) hm h
        fun j hj => ne_high_of_low (by rw [State.sensorAt_waited]; exact hlows j hj), State.waited_waited]
    rfl

/-- Settles O40: the sample falls in the high phase or in the low after it. -/
theorem highPhaseLengthDecidesTheBit : Obligations.HighPhaseLengthDecidesTheBit := by
  intro s l w hm h hl hl' hlimit hw hlows hhighs
  have hbit := readBitIsOneSample s 0 l hm h hlimit (hlows 0 hl) (fun j hj => absurd hj (Nat.not_lt_zero j)) hl'
    (by rw [Nat.zero_add]; exact hhighs 0 hw) (fun j hj => by rw [Nat.zero_add]; exact hlows j hj)
  rw [Nat.zero_add] at hbit
  refine ⟨fun hlong => ⟨_, hbit, ?_⟩, fun hshort hafter => ⟨_, hbit, ?_⟩⟩
  · show OpResult.bit (s.sensorAt (l + s.params.sampleDelayUs.toNat)).code = _
    rw [hhighs _ hlong]
    rfl
  · show OpResult.bit (s.sensorAt (l + s.params.sampleDelayUs.toNat)).code = _
    rw [hafter _ hshort (Nat.le_refl _)]
    rfl

/-! ## Output mode -/

theorem waitFor_output {g : Level} {m : BitVec 8} {s : State} (hm : s.pinMode = .output) (hne : m ≠ 0) :
    waitFor g m s = .refused .readLevelInOutputMode := by
  have hpos : m.toNat ≠ 0 := fun h0 => hne (BitVec.toNat_inj.mp h0)
  obtain ⟨n, hn⟩ : ∃ n, m.toNat = n + 1 := ⟨m.toNat - 1, by omega⟩
  rw [waitFor, hn, waitLoop, readLevel_output (s := { s with retry := 0 }) hm, thenOp_refused]

theorem readBit_output {s : State} (hm : s.pinMode = .output) (hne : s.params.bitLowRetries ≠ 0) :
    readBit s = .refused .readLevelInOutputMode := by
  rw [readBit, waitFor_output hm hne, thenOp_refused]

/-- Settles O39: the first poll is refused, and a limit of 0 makes none. -/
theorem listeningNeedsInputMode : Obligations.ListeningNeedsInputMode := by
  intro s
  refine ⟨fun hm g m hne => ?_, fun g => rfl, fun hm hne => ⟨?_, ?_⟩⟩
  · show finishOp (waitFor g m s) _ = _
    rw [waitFor_output hm hne]
    rfl
  · show finishOp (readBit s) _ = _
    rw [readBit_output hm hne]
    rfl
  · show finishOp (readByte s) _ = _
    rw [readByte, Config.bitsPerByte, readBits, readBit_output (s := { s with acc := 0, bitIdx := 0 }) hm hne]
    rfl

/-! ## The absent sensor -/

/-- What the sensor shows from `t_open` on. -/
theorem State.sensorAt_opened {s : State} (h : s.Exact) (k : Nat) :
    s.opened.sensorAt k = s.sensorAt (s.params.reqLowUs.toNat + s.params.relHighUs.toNat + k) := by
  have henv := (State.opened_exact h).2
  rw [State.sensorAt_congr (u := s.elapse (s.params.reqLowUs.toNat + s.params.relHighUs.toNat)) (by rw [henv]) (by rw [henv]),
    State.sensorAt_elapse]

/-- The registers at `t_open`, on exact delays. -/
theorem State.opened_exact_eq {s : State} (h : s.Exact) :
    s.opened = { s.clearForTransaction with
      pinMode := .input, pinLevel := .high, timer := 0
      env := (s.elapse (s.params.reqLowUs.toNat + s.params.relHighUs.toNat)).env } := by
  rw [← (State.opened_exact h).2]
  rfl

/-- The registers `n` ticks after `t_open`, on exact delays. -/
theorem State.opened_waited {s : State} (h : s.Exact) (n : Nat) (r : BitVec 8) :
    s.opened.waited n r = { s.clearForTransaction with
      pinMode := .input, pinLevel := .high, timer := 0, retry := r
      env := (s.elapse (s.params.reqLowUs.toNat + s.params.relHighUs.toNat + n)).env } := by
  rw [State.opened_exact_eq h, ← State.elapse_elapse s _ n]
  rfl

/-- Settles O44: the first wait from `t_open` on runs out. -/
theorem absentSensorTimesOut : Obligations.AbsentSensorTimesOut := by
  intro s hp hm h hhigh
  have hwait : waitFor .low s.opened.params.ackLowRetries s.opened = .err .timeout _ :=
    waitFor_timeout rfl (State.opened_exact h).1 fun j hj => ne_low_of_high (by rw [State.sensorAt_opened h]; exact hhigh j hj)
  rw [execRead_output hp hm, receive, hwait, thenOp_err, State.opened_waited h]
  cases s
  simp only at hp hm
  subst hp hm
  rfl

end Sys2Proof.Machine
end

section
/-! A sensor whose pulses fit the parameters is read back exactly: the bit, the byte, the frame (R112, R115, R201). -/

namespace Sys2Proof.Machine

/-! ## What the sensor sends -/

/-- A level the sensor sends is the level seen. -/
theorem State.sensorAt_of_sends {s : State} {levels : List Level} {k : Nat} {l : Level} (h : s.sensorSends levels)
    (hk : levels[k]? = some l) : s.sensorAt k = l := by
  obtain ⟨hlt, -⟩ := List.getElem?_eq_some_iff.mp hk
  exact Option.some.inj ((h k hlt).symm.trans hk)

/-- Later, the sensor sends what is left. -/
theorem State.sends_elapse {s : State} {levels : List Level} (h : s.sensorSends levels) (n : Nat) :
    (s.elapse n).sensorSends (levels.drop n) := by
  intro k hk
  rw [List.length_drop] at hk
  rw [List.getElem?_drop, State.sensorAt_elapse]
  exact h (n + k) (by omega)

theorem State.sends_congr {s u : State} {levels : List Level} (h : s.sensorSends levels) (henv : u.env = s.env) :
    u.sensorSends levels := fun k hk =>
  (h k hk).trans (congrArg some (State.sensorAt_congr (by rw [henv]) (by rw [henv]) k))

theorem getElem?_replicate_append_left {α : Type} {n j : Nat} {x : α} {l : List α} (hj : j < n) :
    (List.replicate n x ++ l)[j]? = some x := by
  rw [List.getElem?_append_left (by simpa using hj), List.getElem?_replicate, if_pos hj]

theorem getElem?_replicate_append_right {α : Type} (n j : Nat) (x : α) (l : List α) :
    (List.replicate n x ++ l)[n + j]? = l[j]? := by
  rw [List.getElem?_append_right (by simp), List.length_replicate, Nat.add_sub_cancel_left]

/-- The level right after a run is that of the next. -/
theorem getElem?_replicate_append_next {α : Type} (n : Nat) {m : Nat} (x y : α) (l : List α) (hm : 1 ≤ m) :
    (List.replicate n x ++ (List.replicate m y ++ l))[n]? = some y :=
  (getElem?_replicate_append_right n 0 x _).trans (getElem?_replicate_append_left hm)

theorem Level.code_ofCode (c : BitVec 1) : (Level.ofCode c).code = c := by
  revert c
  decide

/-- What is left of two runs after some ticks that do not use up the second. -/
theorem drop_two_runs {α : Type} {h f n : Nat} (x y : α) (l : List α) (hn : n - h ≤ f) :
    (List.replicate h x ++ (List.replicate f y ++ l)).drop n =
      List.replicate (h - n) x ++ (List.replicate (f - (n - h)) y ++ l) := by
  rw [List.drop_append, List.drop_replicate, List.length_replicate, List.drop_append, List.drop_replicate,
    List.length_replicate, Nat.sub_eq_zero_of_le hn, List.drop_zero]

/-- The length of the low before the next rise: a bit's, or the low that ends the transfer. -/
def SensorTiming.firstLow (t : SensorTiming) (endLow : Nat) (bits : List (BitVec 1)) : Nat :=
  if bits = [] then endLow else t.bitLow

/-- What the sensor sends after the low that comes first. -/
def SensorTiming.afterLow (t : SensorTiming) (endLow : Nat) : List (BitVec 1) → List Level
  | [] => []
  | b :: rest => List.replicate (t.highOf b) .high ++ expand (t.bitRuns rest ++ [(.low, endLow)])

/-- The bits and the low that ends them: the low that comes first, and what comes after it. -/
theorem SensorTiming.expand_bitRuns (t : SensorTiming) (endLow : Nat) (bits : List (BitVec 1)) :
    expand (t.bitRuns bits ++ [(.low, endLow)]) =
      List.replicate (t.firstLow endLow bits) .low ++ t.afterLow endLow bits := by
  cases bits <;> rfl

theorem SensorTiming.highOf_cases (t : SensorTiming) (b : BitVec 1) :
    (b = 1 ∧ t.highOf b = t.oneHigh) ∨ (b = 0 ∧ t.highOf b = t.zeroHigh) := by
  have hb : b = 1 ∨ b = 0 := by
    revert b
    decide
  rcases hb with rfl | rfl
  · exact .inl ⟨rfl, rfl⟩
  · exact .inr ⟨rfl, rfl⟩

/-! ## Bits -/

/-- The block polls for the low of the next bit: the sensor still shows `a` ticks of high and `lo` of low before it. -/
structure OnLine (t : SensorTiming) (endLow : Nat) (s : State) (bits : List (BitVec 1)) (a lo : Nat) : Prop where
  sends : s.sensorSends (List.replicate a .high ++ (List.replicate lo .low ++ t.afterLow endLow bits))
  high : a < s.params.bitLowRetries.toNat
  low : 1 ≤ lo
  low_le : lo ≤ t.firstLow endLow bits

/-- The block listens on exact delays, and the sensor's pulses and its last low fit the parameters (R115, R201). -/
structure Fits (t : SensorTiming) (endLow : Nat) (s : State) : Prop where
  mode : s.pinMode = .input
  exact : s.Exact
  bits : t.BitsFit s.params
  late : s.params.sampleDelayUs.toNat < t.zeroHigh + endLow
  low : 1 ≤ endLow

/-- The ticks from now to the poll that sees the low that ends the transfer (R146 (c)). -/
def SensorTiming.due (t : SensorTiming) (p : Params) (bits : List (BitVec 1)) (a lo : Nat) : Nat :=
  if bits = [] then a else a + lo + t.bitsDuration p bits - t.bitLow

/-- One bit takes its share of the ticks due. -/
theorem SensorTiming.due_cons {t : SensorTiming} {p : Params} {endLow : Nat} (hfit : t.BitsFit p) (b : BitVec 1)
    (rest : List (BitVec 1)) (a lo : Nat) (hshort : p.sampleDelayUs.toNat < t.zeroHigh + t.firstLow endLow rest) :
    a + lo + p.sampleDelayUs.toNat +
        t.due p rest (t.highOf b - p.sampleDelayUs.toNat)
          (t.firstLow endLow rest - (p.sampleDelayUs.toNat - t.highOf b)) =
      t.due p (b :: rest) a lo := by
  obtain ⟨-, -, hzero, -, hone, -⟩ := hfit
  cases rest with
  | nil =>
    simp only [SensorTiming.due, SensorTiming.bitsDuration, if_true, reduceCtorEq, if_false]
    rcases t.highOf_cases b with ⟨rfl, hb⟩ | ⟨rfl, hb⟩ <;> rw [hb]
    · rw [if_pos rfl]; omega
    · rw [if_neg (by decide)]; omega
  | cons c rest =>
    have hlow : t.firstLow endLow (c :: rest) = t.bitLow := rfl
    have hlong : t.bitLow ≤ t.bitsDuration p (c :: rest) := by
      cases rest <;> simp only [SensorTiming.bitsDuration] <;> omega
    have hdur : t.bitsDuration p (b :: c :: rest) = t.bitLow + t.highOf b + t.bitsDuration p (c :: rest) := rfl
    rw [hlow] at hshort
    simp only [SensorTiming.due, reduceCtorEq, if_false, hdur, hlow]
    rcases t.highOf_cases b with ⟨-, hb⟩ | ⟨-, hb⟩ <;> rw [hb] <;> omega

/-- A well-timed bit is read as it is, and leaves the block on the line of the next (R110, R111, R115). -/
theorem readBit_onLine {t : SensorTiming} {endLow : Nat} {s : State} {b : BitVec 1} {rest : List (BitVec 1)} {a lo : Nat}
    (hfits : Fits t endLow s) (h : OnLine t endLow s (b :: rest) a lo) :
    ∃ r, readBit s = .ok b (s.sampled (a + lo + s.params.sampleDelayUs.toNat) r) ∧
      OnLine t endLow (s.sampled (a + lo + s.params.sampleDelayUs.toNat) r) rest
        (t.highOf b - s.params.sampleDelayUs.toNat)
        (t.firstLow endLow rest - (s.params.sampleDelayUs.toNat - t.highOf b)) := by
  obtain ⟨hsends, ha, hlo, hlo'⟩ := h
  obtain ⟨hm, hexact, hfit, hend, hendLow⟩ := hfits
  obtain ⟨hbitLow, hzeroHigh, hzero, hzero', hone, hone', hlimit⟩ := hfit
  have hfirst : t.firstLow endLow (b :: rest) = t.bitLow := rfl
  have hhigh : 1 ≤ t.highOf b := by rcases t.highOf_cases b with ⟨-, hb⟩ | ⟨-, hb⟩ <;> omega
  have hlow : s.params.sampleDelayUs.toNat < t.zeroHigh + t.firstLow endLow rest ∧ 1 ≤ t.firstLow endLow rest := by
    unfold SensorTiming.firstLow
    split <;> omega
  have hafter : t.afterLow endLow (b :: rest) = List.replicate (t.highOf b) .high ++
      (List.replicate (t.firstLow endLow rest) .low ++ t.afterLow endLow rest) := by
    rw [← t.expand_bitRuns]
    rfl
  rw [hafter] at hsends
  have hsample : (List.replicate (t.highOf b) Level.high ++
      (List.replicate (t.firstLow endLow rest) .low ++ t.afterLow endLow rest))[s.params.sampleDelayUs.toNat]? =
      some (Level.ofCode b) := by
    rcases t.highOf_cases b with ⟨rfl, hb⟩ | ⟨rfl, hb⟩ <;> rw [hb]
    · exact getElem?_replicate_append_left hone
    · obtain ⟨k, hk⟩ := Nat.exists_eq_add_of_le hzero
      rw [hk, getElem?_replicate_append_right, getElem?_replicate_append_left (by omega)]
      rfl
  have hread := readBit_eq hm hexact ha
    (State.sensorAt_of_sends hsends (getElem?_replicate_append_next a _ _ _ hlo))
    (fun j hj => State.sensorAt_of_sends hsends (getElem?_replicate_append_left hj))
    (show lo < s.params.bitHighRetries.toNat by omega)
    (State.sensorAt_of_sends hsends (by
      rw [getElem?_replicate_append_right, getElem?_replicate_append_next lo _ _ _ hhigh]))
    (fun j hj => State.sensorAt_of_sends hsends (by
      rw [getElem?_replicate_append_right, getElem?_replicate_append_left hj]))
  have hbit : s.sensorAt (a + lo + s.params.sampleDelayUs.toNat) = Level.ofCode b :=
    State.sensorAt_of_sends hsends (by
      rw [Nat.add_assoc, getElem?_replicate_append_right, getElem?_replicate_append_right, hsample])
  rw [hbit, Level.code_ofCode] at hread
  refine ⟨_, hread, ?_, ?_, ?_, Nat.sub_le _ _⟩
  · have hleft := State.sends_elapse hsends (a + (lo + s.params.sampleDelayUs.toNat))
    rw [← List.drop_drop, List.drop_left' (List.length_replicate ..), ← List.drop_drop,
      List.drop_left' (List.length_replicate ..), drop_two_runs _ _ _ (by
        rcases t.highOf_cases b with ⟨-, hb⟩ | ⟨-, hb⟩ <;> omega), ← Nat.add_assoc] at hleft
    exact State.sends_congr hleft rfl
  · show t.highOf b - s.params.sampleDelayUs.toNat < s.params.bitLowRetries.toNat
    rcases t.highOf_cases b with ⟨-, hb⟩ | ⟨-, hb⟩ <;> omega
  · rcases t.highOf_cases b with ⟨-, hb⟩ | ⟨-, hb⟩ <;> omega

theorem Fits.firstLow {t : SensorTiming} {endLow : Nat} {s : State} (h : Fits t endLow s) (bits : List (BitVec 1)) :
    s.params.sampleDelayUs.toNat < t.zeroHigh + t.firstLow endLow bits := by
  unfold SensorTiming.firstLow
  split
  · exact h.late
  · exact h.bits.2.2.2.1

theorem SensorTiming.highOf_sub_le {t : SensorTiming} {p : Params} (hfit : t.BitsFit p) (b : BitVec 1) :
    t.highOf b - p.sampleDelayUs.toNat ≤ t.oneHigh - p.sampleDelayUs.toNat := by
  obtain ⟨-, -, hzero, -⟩ := hfit
  rcases t.highOf_cases b with ⟨-, hb⟩ | ⟨-, hb⟩ <;> omega

/-- The delay's counter has run down, and at most what a 1 leaves after its sample is still high. -/
def Sampled (t : SensorTiming) (s : State) (a : Nat) : Prop :=
  s.timer = 0 ∧ a ≤ t.oneHigh - s.params.sampleDelayUs.toNat

/-- Well-timed bits one after the other: they are shifted in, and the ticks they take are the ticks due (R112, R201). -/
theorem readBits_onLine {t : SensorTiming} {endLow : Nat} (bits more : List (BitVec 1)) {s : State} {a lo : Nat}
    (hfits : Fits t endLow s) (h : OnLine t endLow s (bits ++ more) a lo) :
    ∃ n a' lo' u, readBits bits.length s = .ok () u ∧ OnLine t endLow u more a' lo' ∧
      u = { s with acc := bits.foldl shiftIn s.acc, bitIdx := u.bitIdx, timer := u.timer, retry := u.retry
                   env := (s.elapse n).env } ∧
      (bits ≠ [] ∨ Sampled t s a → Sampled t u a') ∧
      n + t.due s.params more a' lo' = t.due s.params (bits ++ more) a lo := by
  induction bits generalizing s a lo with
  | nil => exact ⟨0, a, lo, s, rfl, h, rfl, fun hs => hs.resolve_left fun hne => hne rfl, Nat.zero_add _⟩
  | cons b bits ih =>
    obtain ⟨r, hread, hline⟩ := readBit_onLine hfits h
    have hdue := SensorTiming.due_cons hfits.bits b (bits ++ more) a lo (hfits.firstLow _)
    obtain ⟨n, a', lo', u, hreads, hline', hu, hlast, hdue'⟩ :=
      ih (s := (s.sampled (a + lo + s.params.sampleDelayUs.toNat) r).keepBit b)
        ⟨hfits.mode, hfits.exact, hfits.bits, hfits.late, hfits.low⟩
        ⟨State.sends_congr hline.sends rfl, hline.high, hline.low, hline.low_le⟩
    refine ⟨a + lo + s.params.sampleDelayUs.toNat + n, a', lo', u, ?_, hline', ?_, fun _ => ?_, ?_⟩
    · rw [List.length_cons, readBits, hread, thenOp_ok, hreads]
    · rw [← State.elapse_elapse]
      exact hu
    · exact hlast (.inr ⟨rfl, SensorTiming.highOf_sub_le hfits.bits b⟩)
    · rw [List.cons_append, ← hdue, Nat.add_assoc]
      exact congrArg _ hdue'

/-! ## Bytes -/

theorem extractBit_toNat (v : U8) (i : Nat) : (v.extractLsb' i 1).toNat = v.toNat / 2 ^ i % 2 := by
  rw [BitVec.extractLsb'_toNat, Nat.shiftRight_eq_div_pow, Nat.pow_one]

/-- Shifting in the bits of a byte in the order of the line gives the byte (R54, R113). -/
theorem foldl_byteBits (v : U8) : (byteBits v).foldl shiftIn 0 = v := by
  have hlt := v.isLt
  rw [← BitVec.toNat_inj, byteBits, foldl_shiftIn_toNat]
  simp only [extractBit_toNat]
  omega

/-- A well-timed byte is read as it is (R112, R115). -/
theorem readByte_onLine {t : SensorTiming} {endLow : Nat} (v : U8) (more : List (BitVec 1)) {s : State} {a lo : Nat}
    (hfits : Fits t endLow s) (h : OnLine t endLow s (byteBits v ++ more) a lo) :
    ∃ n a' lo' u, readByte s = .ok v u ∧ OnLine t endLow u more a' lo' ∧
      u = { s with frame := frameSet s.frame s.byteIdx v, acc := 0, bitIdx := 0, timer := 0, retry := u.retry
                   env := (s.elapse n).env } ∧
      Sampled t u a' ∧ n + t.due s.params more a' lo' = t.due s.params (byteBits v ++ more) a lo := by
  obtain ⟨n, a', lo', u, hreads, hline, hu, hlast, hdue⟩ :=
    readBits_onLine (byteBits v) more (s := { s with acc := 0, bitIdx := 0 })
      ⟨hfits.mode, hfits.exact, hfits.bits, hfits.late, hfits.low⟩
      ⟨State.sends_congr h.sends rfl, h.high, h.low, h.low_le⟩
  have hbits : readBits Config.bitsPerByte { s with acc := 0, bitIdx := 0 } = .ok () u := hreads
  have hacc : u.acc = v := by
    rw [hu]
    exact foldl_byteBits v
  obtain ⟨htimer, ha'⟩ := hlast (.inl nofun)
  refine ⟨n, a', lo', u.storeByte v, ?_, ⟨State.sends_congr hline.sends rfl, hline.high, hline.low, hline.low_le⟩, ?_,
    ⟨htimer, ha'⟩, hdue⟩
  · rw [readByte, hbits, thenOp_ok, hacc]
  · rw [htimer] at hu
    rw [hu]
    rfl

/-- The block has just seen the line at its start: no high left, the whole first low ahead. -/
theorem onLine_start {t : SensorTiming} {endLow : Nat} {s : State} {bits : List (BitVec 1)} {a : Nat}
    (h : s.sensorSends (List.replicate a .high ++ expand (t.bitRuns bits ++ [(.low, endLow)])))
    (ha : a < s.params.bitLowRetries.toNat) (hlow : 1 ≤ t.firstLow endLow bits) :
    OnLine t endLow s bits a (t.firstLow endLow bits) :=
  ⟨by rwa [t.expand_bitRuns] at h, ha, hlow, Nat.le_refl _⟩

/-- Settles O41: the line begins with the low of the first bit. -/
theorem readByteDecodesAWellTimedByte : Obligations.ReadByteDecodesAWellTimedByte := by
  intro s t v hm hexact hfit hsends
  have hline : OnLine t t.bitLow s (byteBits v ++ []) 0 (t.firstLow t.bitLow (byteBits v ++ [])) := by
    refine onLine_start (by rwa [List.append_nil]) ?_ hfit.1
    obtain ⟨-, -, -, -, -, hone, -⟩ := hfit
    omega
  obtain ⟨n, -, -, u, hread, -, hu, -⟩ :=
    readByte_onLine v [] ⟨hm, hexact, hfit, hfit.2.2.2.1, hfit.1⟩ hline
  refine ⟨n, u.retry, ?_⟩
  show finishOp (readByte s) _ = _
  rw [hread, finishOp_ok]
  exact congrArg (fun w : State => Host.Outcome.next { w with ret := .byte v }) hu

/-! ## The frame -/

/-- The frame and the byte index after some bytes in order of arrival (R24, R138). -/
def storeAll : List U8 → Frame → Fin 5 → Frame × Fin 5
  | [], f, j => (f, j)
  | v :: vs, f, j => storeAll vs (frameSet f j v) (nextByteIdx j)

/-- Five bytes from index 0 on fill the frame, whatever it held. -/
theorem storeAll_frame (f g : Frame) : storeAll [f.b0, f.b1, f.b2, f.b3, f.b4] g 0 = (f, 4) := rfl

/-- Well-timed bytes one after the other (R120, state 5). -/
theorem readBytes_onLine {t : SensorTiming} {endLow : Nat} (vs : List U8) (more : List (BitVec 1)) {s : State} {a lo : Nat}
    (hfits : Fits t endLow s) (h : OnLine t endLow s (vs.flatMap byteBits ++ more) a lo) :
    ∃ n a' lo' u, readBytes vs.length s = .ok () u ∧ OnLine t endLow u more a' lo' ∧
      u = { s with frame := (storeAll vs s.frame s.byteIdx).1, byteIdx := (storeAll vs s.frame s.byteIdx).2, acc := u.acc
                   bitIdx := u.bitIdx, timer := u.timer, retry := u.retry, env := (s.elapse n).env } ∧
      (vs ≠ [] ∨ s.acc = 0 ∧ s.bitIdx = 0 ∧ Sampled t s a → u.acc = 0 ∧ u.bitIdx = 0 ∧ Sampled t u a') ∧
      n + t.due s.params more a' lo' = t.due s.params (vs.flatMap byteBits ++ more) a lo := by
  induction vs generalizing s a lo with
  | nil => exact ⟨0, a, lo, s, rfl, h, rfl, fun hs => hs.resolve_left fun hne => hne rfl, Nat.zero_add _⟩
  | cons v vs ih =>
    rw [List.flatMap_cons, List.append_assoc] at h ⊢
    obtain ⟨n, a1, lo1, w, hread, hline, hw, ⟨htimer, ha1⟩, hdue⟩ := readByte_onLine v _ hfits h
    have hparams : w.params = s.params := by rw [hw]
    have hfits' : Fits t endLow w.nextByte := by
      obtain ⟨hm, hexact, hbits, hlate, hlow⟩ := hfits
      rw [hw]
      exact ⟨hm, hexact, hbits, hlate, hlow⟩
    obtain ⟨n', a', lo', u, hreads, hline', hu, hlast, hdue'⟩ :=
      ih (s := w.nextByte) hfits' ⟨State.sends_congr hline.sends rfl, hline.high, hline.low, hline.low_le⟩
    refine ⟨n + n', a', lo', u, ?_, hline', ?_, fun _ => hlast (.inr ⟨?_, ?_, htimer, ha1⟩), ?_⟩
    · rw [List.length_cons, readBytes, hread, thenOp_ok, hreads]
    · rw [← State.elapse_elapse]
      rw [hw] at hu
      exact hu
    · rw [hw]; rfl
    · rw [hw]; rfl
    · have hdue'' : n' + t.due w.params more a' lo' = t.due w.params (vs.flatMap byteBits ++ more) a1 lo1 := hdue'
      rw [hparams] at hdue''
      omega

theorem frameBits_eq (f : Frame) : frameBits f = [f.b0, f.b1, f.b2, f.b3, f.b4].flatMap byteBits := rfl

/-- The wait for the end low sees it once the high left is over (R139). -/
theorem endWait_onLine {t : SensorTiming} {endLow : Nat} {s : State} {a lo : Nat} (hfits : Fits t endLow s)
    (h : OnLine t endLow s [] a lo) (ha : a < s.params.endLowRetries.toNat) :
    ∃ r, endWait s = .ok () (s.waited a r) := by
  have hwait := waitFor_match (m := s.params.endLowRetries) hfits.mode hfits.exact ha
    (State.sensorAt_of_sends h.sends (getElem?_replicate_append_next a _ _ _ h.low))
    (fun j hj => ne_low_of_high (State.sensorAt_of_sends h.sends (getElem?_replicate_append_left hj)))
  exact ⟨_, by rw [endWait, hwait]⟩

/-- What the sensor sends for a frame, run by run (R70). -/
theorem SensorTiming.expand_frameRuns (t : SensorTiming) (f : Frame) :
    expand (t.frameRuns f) = List.replicate t.lead .high ++ (List.replicate t.ackLow .low ++
      (List.replicate t.ackHigh .high ++ expand (t.bitRuns (frameBits f) ++ [(.low, t.endLow)]))) := rfl

/-- The acknowledge of a well-timed sensor: its low, then its high, are seen at their first ticks (R134, R135, R201). -/
theorem waits_handshake {t : SensorTiming} {s : State} {levels : List Level} (hm : s.pinMode = .input) (hexact : s.Exact)
    (hfit : t.HandshakeFits s.params)
    (hsends : s.sensorSends (List.replicate t.lead .high ++ (List.replicate t.ackLow .low ++
      (List.replicate t.ackHigh .high ++ levels)))) :
    ∃ r r', waitFor .low s.params.ackLowRetries s = .ok () (s.waited t.lead r) ∧
      waitFor .high s.params.ackHighRetries (s.waited t.lead r) = .ok () (s.waited (t.lead + t.ackLow) r') ∧
      (s.waited (t.lead + t.ackLow) r').sensorSends (List.replicate t.ackHigh .high ++ levels) := by
  obtain ⟨hlead, hackLow, hackLow', hackHigh, -⟩ := hfit
  have hlow := waitFor_match hm hexact hlead
    (State.sensorAt_of_sends hsends (getElem?_replicate_append_next _ _ _ _ hackLow))
    (fun j hj => ne_low_of_high (State.sensorAt_of_sends hsends (getElem?_replicate_append_left hj)))
  have hhigh := waitFor_match (g := .high) (s := s.waited t.lead (BitVec.ofNat 8 (t.lead + 1))) hm hexact hackLow'
    (by
      rw [State.sensorAt_waited]
      exact State.sensorAt_of_sends hsends (by
        rw [getElem?_replicate_append_right, getElem?_replicate_append_next _ _ _ _ hackHigh]))
    (fun j hj => ne_high_of_low (by
      rw [State.sensorAt_waited]
      exact State.sensorAt_of_sends hsends (by
        rw [getElem?_replicate_append_right, getElem?_replicate_append_left hj])))
  rw [State.waited_waited] at hhigh
  have hleft := State.sends_elapse hsends (t.lead + t.ackLow)
  rw [← List.drop_drop, List.drop_left' (List.length_replicate ..), List.drop_left' (List.length_replicate ..)] at hleft
  exact ⟨_, _, hlow, hhigh, State.sends_congr hleft rfl⟩

/-- From `t_open` on a well-timed sensor's frame is received whole, and validated when its last low is seen (R120). -/
theorem receive_wellTimed {t : SensorTiming} {s : State} (f : Frame) (hm : s.pinMode = .input) (hexact : s.Exact)
    (hbyte : s.byteIdx = 0) (hbits : t.BitsFit s.params) (hfit : t.HandshakeFits s.params)
    (hsends : s.sensorSends (expand (t.frameRuns f))) :
    ∃ r, receive s = validateEnd { s with
      frame := f, byteIdx := 4, acc := 0, bitIdx := 0, timer := 0, retry := r
      env := (s.elapse (t.lead + t.ackLow + t.ackHigh + t.bitsDuration s.params (frameBits f))).env } := by
  obtain ⟨r1, r2, hlow, hhigh, hleft⟩ := waits_handshake hm hexact hfit (t.expand_frameRuns f ▸ hsends)
  obtain ⟨-, -, -, -, hackHigh, hlate, hendLow, hendLimit⟩ := hfit
  have hfits : Fits t t.endLow (s.waited (t.lead + t.ackLow) r2) := ⟨hm, hexact, hbits, hlate, hendLow⟩
  have hline : OnLine t t.endLow (s.waited (t.lead + t.ackLow) r2)
      ([f.b0, f.b1, f.b2, f.b3, f.b4].flatMap byteBits ++ []) t.ackHigh t.bitLow := by
    rw [List.append_nil, ← frameBits_eq]
    exact onLine_start hleft hackHigh hbits.1
  obtain ⟨n, a, lo, u, hreads, hline', hu, hlast, hdue⟩ := readBytes_onLine [f.b0, f.b1, f.b2, f.b3, f.b4] [] hfits hline
  obtain ⟨hacc, hbitIdx, htimer, ha⟩ := hlast (.inl nofun)
  have hfits' : Fits t t.endLow u := by
    rw [hu]
    exact ⟨hfits.mode, hfits.exact, hfits.bits, hfits.late, hfits.low⟩
  have hparams : u.params = s.params := by rw [hu]; rfl
  rw [hparams] at ha
  obtain ⟨r, hend⟩ := endWait_onLine hfits' hline' (by rw [hparams]; omega)
  refine ⟨r, ?_⟩
  have hticks : n + a = t.ackHigh + t.bitsDuration s.params (frameBits f) := by
    rw [List.append_nil, ← frameBits_eq] at hdue
    have hne : frameBits f ≠ [] := nofun
    simp only [SensorTiming.due, if_pos, if_neg hne] at hdue
    have hdur : (s.waited (t.lead + t.ackLow) r2).params = s.params := rfl
    rw [hdur] at hdue
    omega
  have hreads' : readBytes Config.frameBytes (s.waited (t.lead + t.ackLow) r2) = .ok () u := hreads
  rw [receive_eq, receiveBytes, hlow, thenOp_ok, show (s.waited t.lead r1).params = s.params from rfl, hhigh, thenOp_ok,
    hreads', thenOp_ok, hend, thenOp_ok]
  refine congrArg validateEnd ?_
  rw [hacc, hbitIdx, htimer] at hu
  rw [hu, show t.lead + t.ackLow + t.ackHigh + t.bitsDuration s.params (frameBits f) = t.lead + t.ackLow + n + a by omega,
    ← State.elapse_elapse s _ a, ← State.elapse_elapse s _ n]
  simp only [State.waited, State.elapse_frame, State.elapse_byteIdx, hbyte, storeAll_frame]
  rfl

/-- Settles O43: the frame is received whole after `t_open`, and its checksum decides. -/
theorem readDecodesAWellTimedFrame : Obligations.ReadDecodesAWellTimedFrame := by
  intro s t f hp hm hexact hbits hfit hsends
  have hopen := State.opened_exact hexact
  obtain ⟨r, hreceive⟩ := receive_wellTimed f (s := s.opened) rfl hopen.1 rfl hbits hfit (State.sends_congr hsends hopen.2)
  have henv : (s.opened.elapse (t.lead + t.ackLow + t.ackHigh + t.bitsDuration s.params (frameBits f))).env =
      (s.elapse (s.params.reqLowUs.toNat + s.params.relHighUs.toNat + t.lead + t.ackLow + t.ackHigh +
        t.bitsDuration s.params (frameBits f))).env := by
    rw [State.elapse_env, hopen.2]
    simp only [State.elapse_env, List.drop_drop, Nat.add_assoc]
  rw [show s.opened.params = s.params from rfl, henv] at hreceive
  refine ⟨r, ?_⟩
  rw [execRead_output hp hm, hreceive]
  cases s
  simp only at hp hm
  subst hp hm
  rcases validateFrame_cases f with ⟨hv, he⟩ | ⟨hv, he⟩
  · rw [validateEnd, he, if_pos hv, if_pos hv, if_pos hv]
    rfl
  · have hv' : ¬frameValid f = true := by rw [hv]; decide
    rw [validateEnd, he, if_neg hv', if_neg hv', if_neg hv']
    rfl

end Sys2Proof.Machine
end

section
/-! The ticks of the machine and the big-step READ agree (R145): a simulation. A state `b` of the big-step operation stands
for the state of the machine with the same registers in the phase of the operation under way. -/

namespace Sys2Proof.Machine

/-! ## Passing through states that act and block -/

/-- From the action of `u` the machine comes to the action of `v`: through actions that go on, and through ticks that a
busy block ends blocked. -/
inductive Passes : State → State → Prop
  | refl (u : State) : Passes u u
  | act {u v w : State} (ha : Acts u v) (hphase : v.phase ≠ u.phase) (hidle : v.phase ≠ Phase.idle) (h : Passes v w) :
      Passes u w
  | tick {u v w : State} (ha : Acts u v) (hphase : v.phase = u.phase) (hbusy : v.busy = true)
      (h : Passes v.endTick.beginTick w) : Passes u w

theorem Passes.trans {u v w : State} (h : Passes u v) (h' : Passes v w) : Passes u w := by
  induction h with
  | refl => exact h'
  | act ha hphase hidle _ ih => exact .act ha hphase hidle (ih h')
  | tick ha hphase hbusy _ ih => exact .tick ha hphase hbusy (ih h')

theorem Passes.tick_le {u v : State} (h : Passes u v) : u.env.tick ≤ v.env.tick := by
  induction h with
  | refl => exact Nat.le_refl _
  | act ha _ _ _ ih => exact ha.frame.1 ▸ ih
  | tick ha _ _ _ ih => exact Nat.le_trans (Nat.le_succ _) (ha.frame.1 ▸ ih)

/-- The rest of this tick from the action of `u`, and `n` ticks more. -/
def goOn (n : Nat) (u : State) : Result := andThen (settle u) fun v => runTicks n v.endTick

theorem runTicks_succ_eq_goOn {n : Nat} {s : State} (hr : s.inputsNow.rst = false) (hm : s.task.mode = .notSpawned) :
    runTicks (n + 1) s = goOn n s.beginTick := by
  rw [runTicks_succ, step_notSpawned hr hm, andThen_assoc]
  rfl

theorem goOn_act {u v : State} (n : Nat) (ha : Acts u v) (hphase : v.phase ≠ u.phase) (hidle : v.phase ≠ Phase.idle) :
    goOn n u = goOn n v := by
  rw [goOn, settle_goesOn ha hphase hidle]
  rfl

theorem goOn_tick {u v : State} (n : Nat) (ha : Acts u v) (hphase : v.phase = u.phase)
    (hr : v.endTick.inputsNow.rst = false) (hm : v.task.mode = .notSpawned) :
    goOn (n + 1) u = goOn n v.endTick.beginTick := by
  rw [goOn, settle_rests ha (.inl hphase), andThen_next]
  exact runTicks_succ_eq_goOn hr hm

/-- `rst` depends on the environment's tick and queue alone. -/
theorem State.rstAt_congr {s u : State} (ht : s.env.tick = u.env.tick) (hi : s.env.inputs = u.env.inputs) (k : Nat) :
    s.rstAt k = u.rstAt k := by
  simp [State.rstAt, State.inputsNow, ht, hi]

/-- A way without reset is what the machine runs, and it is busy after every tick on it. -/
theorem Passes.run {u v : State} (h : Passes u v) (hm : u.task.mode = .notSpawned)
    (hr : ∀ k, u.env.tick + k ≤ v.env.tick → u.rstAt k = false) :
    (∀ n, goOn (v.env.tick - u.env.tick + n) u = goOn n v) ∧
      ∀ k, u.env.tick + k < v.env.tick → ∃ w, goOn k u = .next w ∧ w.busy = true := by
  induction h with
  | refl u => exact ⟨fun n => by rw [Nat.sub_self, Nat.zero_add], fun k hk => by omega⟩
  | @act u v w ha hphase hidle _ ih =>
    obtain ⟨htick, hinputs, -, htask, -⟩ := ha.frame
    rw [htick] at ih
    obtain ⟨hrun, hbusy⟩ := ih (by rw [htask]; exact hm) fun k hk => by rw [State.rstAt_congr htick hinputs]; exact hr k hk
    exact ⟨fun n => (goOn_act _ ha hphase hidle).trans (hrun n),
      fun k hk => by rw [goOn_act k ha hphase hidle]; exact hbusy k hk⟩
  | @tick u v w ha hphase hbusy hrest ih =>
    obtain ⟨htick, hinputs, -, htask, -⟩ := ha.frame
    have hmode : v.task.mode = .notSpawned := by rw [htask]; exact hm
    have hnext : v.endTick.beginTick.env.tick = u.env.tick + 1 := by rw [← htick]; rfl
    have hle := hrest.tick_le
    have hr' : ∀ k, v.endTick.beginTick.rstAt k = u.rstAt (1 + k) := fun k => by
      rw [← State.rstAt_elapse]
      exact State.rstAt_congr hnext (congrArg (List.drop 1) hinputs) k
    have hrst : v.endTick.inputsNow.rst = false := (hr' 0).trans (hr 1 (by omega))
    obtain ⟨hrun, hbusies⟩ := ih hmode fun k hk => by
      rw [hr']
      exact hr (1 + k) (by omega)
    refine ⟨fun n => ?_, fun k hk => ?_⟩
    · rw [show w.env.tick - u.env.tick + n = w.env.tick - v.endTick.beginTick.env.tick + n + 1 by omega,
        goOn_tick _ ha hphase hrst hmode]
      exact hrun n
    · cases k with
      | zero => exact ⟨v.endTick, by rw [goOn, settle_rests ha (.inl hphase)]; rfl, hbusy⟩
      | succ k =>
        rw [goOn_tick k ha hphase hrst hmode]
        exact hbusies k (by omega)

/-! ## The delays -/

/-- The phases in which slack left runs down: a wait, or a delay whose timer has. -/
def State.SlackRuns (u : State) : Prop :=
  ((u.phase = Phase.reqLow ∨ u.phase = Phase.relHigh ∨ u.phase = Phase.bitDelay) ∧ u.timer = 0) ∨
    ∃ g m, waitOperands u.params u.phase = some (g, m)

theorem State.SlackRuns.acts {u : State} (h : u.SlackRuns) (hs : u.env.slack ≠ 0) : Acts u u.spendSlack := by
  rcases h with ⟨hp, ht⟩ | ⟨g, m, hw⟩
  · exact .delaySlack hp ht hs
  · exact .waitSlack g m hw hs

theorem State.SlackRuns.beginTick {u : State} (h : u.SlackRuns) : u.beginTick = u := by
  rcases h with ⟨hp, ht⟩ | ⟨g, m, hw⟩
  · show ({ u with timer := if _ then timerDown u.timer else u.timer } : State) = u
    rw [if_pos ((delayOperand_isSome_iff u.params u.phase).mpr hp), ht, show timerDown 0 = 0 from rfl, ← ht]
  · exact State.beginTick_of_wait hw

/-- The state once its slack has run down. -/
def State.slackSpent (u : State) : State :=
  { u with env := { tick := u.env.tick + u.env.slack, inputs := u.env.inputs.drop u.env.slack, slack := 0, draws := u.env.draws } }

/-- Slack runs down one a tick (R91). -/
theorem passes_slack {u : State} (h : u.SlackRuns) (hbusy : u.busy = true) : Passes u u.slackSpent := by
  induction hn : u.env.slack generalizing u with
  | zero =>
    have hspent : u.slackSpent = u := by
      simp only [State.slackSpent, hn, Nat.add_zero, List.drop_zero]
      rw [← hn]
    rw [hspent]
    exact .refl u
  | succ n ih =>
    have hnext : u.spendSlack.endTick.SlackRuns := h
    have hslack : u.spendSlack.endTick.env.slack = n := by
      show u.env.slack - 1 = n
      omega
    have hspent : u.spendSlack.endTick.slackSpent = u.slackSpent := by
      simp [State.slackSpent, State.spendSlack, hn, Nat.add_comm]
      omega
    refine .tick (h.acts (by omega)) rfl hbusy ?_
    rw [hnext.beginTick, ← hspent]
    exact ih hnext hbusy hslack

/-- The timer of a delay phase counts one down when a tick passes (R130). -/
theorem State.beginTick_timer_toNat {s : State} (hp : s.phase = Phase.reqLow ∨ s.phase = Phase.relHigh ∨ s.phase = Phase.bitDelay)
    (ht : s.timer ≠ 0) : s.beginTick.timer.toNat + 1 = s.timer.toNat := by
  have hone := State.one_le_timer ht
  show (if _ then timerDown s.timer else s.timer).toNat + 1 = _
  rw [if_pos ((delayOperand_isSome_iff s.params s.phase).mpr hp), timerDown_toNat ht]
  exact Nat.sub_add_cancel hone

/-- The state once its timer has run down. -/
def State.timerSpent (u : State) : State := { u.elapse u.timer.toNat with timer := 0 }

/-- The timer of a delay phase runs down one a tick (R90, R130). -/
theorem passes_timer {u : State} (hp : u.phase = Phase.reqLow ∨ u.phase = Phase.relHigh ∨ u.phase = Phase.bitDelay)
    (hbusy : u.busy = true) : Passes u u.timerSpent := by
  induction hn : u.timer.toNat generalizing u with
  | zero =>
    have hspent : u.timerSpent = u := by
      have ht : u.timer = 0 := BitVec.toNat_inj.mp hn
      rw [State.timerSpent, hn, State.elapse_zero, ← ht]
    rw [hspent]
    exact .refl u
  | succ n ih =>
    have ht : u.timer ≠ 0 := fun h0 => by rw [h0] at hn; cases hn
    have htimer : u.endTick.beginTick.timer.toNat = n := by
      have hdown := State.beginTick_timer_toNat (s := u.endTick) hp ht
      have : u.endTick.timer.toNat = n + 1 := hn
      omega
    have hspent : u.endTick.beginTick.timerSpent = u.timerSpent := by
      rw [State.timerSpent, State.timerSpent, htimer, hn, Nat.add_comm n 1, ← State.elapse_elapse]
      rfl
    refine .tick (.delayRuns hp ht) rfl hbusy ?_
    rw [← hspent]
    exact ih hp hbusy htimer

/-- A delay phase is the big-step delay (R90, R91). -/
theorem passes_delay {b : State} {c : BitVec 4} (n : BitVec 15)
    (hp : c = Phase.reqLow ∨ c = Phase.relHigh ∨ c = Phase.bitDelay) (hbusy : b.busy = true) :
    Passes (b.enterDelay c n) ((b.delayUs n).enterPhase c) := by
  have hend : (b.enterDelay c n).timerSpent.slackSpent = (b.delayUs n).enterPhase c := by
    simp [State.slackSpent, State.timerSpent, State.enterDelay, State.delayUs, State.passTicks, State.enterPhase,
      State.elapse, Nat.add_assoc]
  rw [← hend]
  exact (passes_timer (u := b.enterDelay c n) hp hbusy).trans (passes_slack (.inl ⟨hp, rfl⟩) hbusy)

/-! ## The listening operations -/

/-- The big-step state between two polls of a transaction: no slack is left, and bit `i` of byte `j` is awaited, with
nothing assembled before the first bit. -/
structure State.Hears (b : State) (i : BitVec 3) (j : Fin 5) : Prop where
  slack : b.env.slack = 0
  busy : b.busy = true
  bit : b.bitIdx = i
  byte : b.byteIdx = j
  acc : i = 0 → b.acc = 0

/-- From the action of `u` the machine comes to where the operation `r` ends: after `Ok` to the action of `next` of its
state, after `Err` to RESTORE. -/
abbrev OpEnd.Simulates {α : Type} (r : OpEnd α) (u : State) (P : α → State → Prop) (next : α → State → State) : Prop :=
  r.Meets (fun a b => P a b ∧ Passes u (next a b)) (fun e b => Passes u (b.raise e)) True

/-- The machine follows a sequence of operations. -/
theorem OpEnd.Simulates.thenOp {α β : Type} {r : OpEnd α} {f : α → State → OpEnd β} {u : State} {P : α → State → Prop}
    {Q : β → State → Prop} {next : α → State → State} {next' : β → State → State} (h : r.Simulates u P next)
    (hf : ∀ a b, P a b → (f a b).Simulates (next a b) Q next') : (Machine.thenOp r f).Simulates u Q next' :=
  OpEnd.Meets.thenOp h fun a b ⟨hP, hpass⟩ =>
    (hf a b hP).mono (fun _ _ ⟨hQ, hpass'⟩ => ⟨hQ, hpass.trans hpass'⟩) (fun _ _ hpass' => hpass.trans hpass') id

/-- The 1-tick delay of a mismatching poll, tick by tick and at once (R100, R101). -/
theorem State.slackSpent_drawSlack (u : State) : u.drawSlack.endTick.slackSpent = u.passTicks 1 := by
  simp [State.slackSpent, State.drawSlack, State.endTick, State.elapse, State.passTicks, Nat.add_assoc, Nat.add_comm 1]

/-- A wait phase that has made `retry` polls is the big-step wait with the rest of its polls left (R100, R101, R104). -/
theorem waitLoop_passes {g : Level} {lim : BitVec 8} {p : BitVec 4} {i : BitVec 3} {j : Fin 5} (m : Nat) {b : State}
    (hw : waitOperands b.params p = some (g, lim)) (hm : b.retry.toNat + m = lim.toNat) (hb : b.Hears i j) :
    (waitLoop g m b).Meets (fun _ b' => b'.Hears i j ∧ Passes (b.enterPhase p) (b'.enterPhase p).matched)
      (fun e b' => e = .timeout ∧ b'.Hears i j ∧ Passes (b.enterPhase p) (b'.enterPhase p).exhausted) True := by
  induction m generalizing b with
  | zero =>
    have hr : b.retry = lim := BitVec.toNat_inj.mp hm
    obtain ⟨hphase, hidle⟩ := State.exhausted_goesOn (s := b.enterPhase p) hw
    exact ⟨rfl, hb, .act (.exhausts g lim hw hb.slack hr) hphase hidle (.refl _)⟩
  | succ m ih =>
    have hr : b.retry ≠ lim := fun h => by rw [h] at hm; omega
    rcases b.pinMode_cases with hmode | hmode
    · simp only [waitLoop, readLevel_output hmode, thenOp_refused]
      trivial
    rw [waitLoop_succ hmode]
    have hline : (b.enterPhase p).line = b.inputsNow.line := by
      rw [State.line, show (b.enterPhase p).pinMode = .input from hmode]
      rfl
    split
    · next hl =>
      obtain ⟨hlisten, -, hne⟩ := State.matched_listens (s := (b.enterPhase p).countPoll) hw
      exact ⟨⟨hb.slack, hb.busy, hb.bit, hb.byte, hb.acc⟩, .act (.pollMatches g lim hw hb.slack hr (hline.trans hl)) hne
        hlisten.not_output_phase.1 (.refl _)⟩
    · next hl =>
      have hcount := (State.countPoll_retry_toNat (s := b) (m := lim) (by omega) hr).1
      have hpass : Passes (b.enterPhase p) ((b.countPoll.passTicks 1).enterPhase p) := by
        refine .tick (.mismatches g lim hw hb.slack hr (hline ▸ hl)) rfl hb.busy ?_
        have hruns : (b.enterPhase p).countPoll.drawSlack.endTick.SlackRuns := .inr ⟨g, lim, hw⟩
        have hspent : (b.enterPhase p).countPoll.drawSlack.endTick.slackSpent = (b.countPoll.passTicks 1).enterPhase p :=
          (b.enterPhase p).countPoll.slackSpent_drawSlack
        rw [hruns.beginTick, ← hspent]
        exact passes_slack hruns hb.busy
      exact (ih (b := b.countPoll.passTicks 1) hw (by show b.countPoll.retry.toNat + m = _; omega)
          ⟨rfl, hb.busy, hb.bit, hb.byte, hb.acc⟩).mono
        (fun _ _ ⟨h, hp⟩ => ⟨h, hpass.trans hp⟩) (fun _ _ ⟨he, h, hp⟩ => ⟨he, h, hpass.trans hp⟩) id

theorem waitFor_passes {g : Level} {lim : BitVec 8} {p : BitVec 4} {i : BitVec 3} {j : Fin 5} {b : State}
    (hw : waitOperands b.params p = some (g, lim)) (hb : b.Hears i j) :
    (waitFor g lim b).Meets (fun _ b' => b'.Hears i j ∧ Passes (b.enterWait p) (b'.enterPhase p).matched)
      (fun e b' => e = .timeout ∧ b'.Hears i j ∧ Passes (b.enterWait p) (b'.enterPhase p).exhausted) True :=
  waitLoop_passes lim.toNat (b := { b with retry := 0 }) hw (Nat.zero_add _) ⟨hb.slack, hb.busy, hb.bit, hb.byte, hb.acc⟩

/-- A wait phase other than END_WAIT_LOW is the big-step wait, and raises its `Timeout`. -/
theorem waitFor_simulates {g : Level} {lim : BitVec 8} {p : BitVec 4} {i : BitVec 3} {j : Fin 5} {b : State}
    (hw : waitOperands b.params p = some (g, lim)) (hp : p ≠ Phase.endWaitLow) (hb : b.Hears i j) :
    (waitFor g lim b).Simulates (b.enterWait p) (fun _ b' => b'.Hears i j) (fun _ b' => (b'.enterPhase p).matched) := by
  refine (waitFor_passes hw hb).mono (fun _ _ h => h) (fun e b' ⟨he, _, hpass⟩ => ?_) id
  rw [State.exhausted_raises (s := b'.enterPhase p) hp] at hpass
  rw [he]
  exact hpass

/-- The bit `v` assembled, and the phase that follows (R138). -/
def State.assemble (b : State) (v : BitVec 1) : State :=
  if b.bitIdx ≠ 7 then (b.keepBit v).enterWait Phase.bitWaitLow
  else
    let w := b.storeByte (shiftIn b.acc v)
    if b.byteIdx ≠ 4 then w.nextByte.enterWait Phase.bitWaitLow else w.enterWait Phase.endWaitLow

/-- The phase that follows a stored byte (R138). -/
def State.afterByte (b : State) : State :=
  if b.byteIdx ≠ 4 then b.nextByte.enterWait Phase.bitWaitLow else b.enterWait Phase.endWaitLow

theorem State.assemble_of_ne {b : State} (h : b.bitIdx ≠ 7) (v : BitVec 1) :
    b.assemble v = (b.keepBit v).enterWait Phase.bitWaitLow := by
  rw [State.assemble, if_pos h]

theorem State.assemble_last {b : State} (h : b.bitIdx = 7) (v : BitVec 1) :
    b.assemble v = ((b.keepBit v).storeByte (b.keepBit v).acc).afterByte := by
  rw [State.assemble, if_neg (not_not_intro h)]
  rfl

/-- BIT_WAIT_LOW, BIT_WAIT_HIGH and BIT_DELAY are READ_BIT (R110, R136 to R138). -/
theorem readBit_simulates {i : BitVec 3} {j : Fin 5} {b : State} (hb : b.Hears i j) :
    (readBit b).Simulates (b.enterWait Phase.bitWaitLow) (fun _ b' => b'.Hears i j) (fun v b' => b'.assemble v) := by
  refine (waitFor_simulates (p := Phase.bitWaitLow) rfl (by decide) hb).thenOp fun _ b1 h1 => ?_
  rw [State.matched_bitWaitLow (s := b1.enterPhase Phase.bitWaitLow) rfl]
  refine (waitFor_simulates (p := Phase.bitWaitHigh) rfl (by decide) h1).thenOp fun _ b2 h2 => ?_
  rw [State.matched_bitWaitHigh (s := b2.enterPhase Phase.bitWaitHigh) rfl]
  have hdelay := passes_delay (b := b2) (c := Phase.bitDelay) b2.params.sampleDelayUs (.inr (.inr rfl)) h2.busy
  rcases (b2.delayUs b2.params.sampleDelayUs).pinMode_cases with hmode | hmode
  · rw [readLevel_output hmode]
    trivial
  · have hline : (b2.delayUs b2.params.sampleDelayUs).line = (b2.delayUs b2.params.sampleDelayUs).inputsNow.line := by
      rw [State.line, hmode]
    rw [readLevel_input hmode, thenOp_ok, ← hline]
    refine ⟨⟨rfl, h2.busy, h2.bit, h2.byte, h2.acc⟩, hdelay.trans (.act (.samples rfl rfl rfl) ?_ ?_ (.refl _))⟩
    all_goals rcases ((b2.delayUs b2.params.sampleDelayUs).enterPhase Phase.bitDelay).sampleBit_phase with hc | hc
    all_goals rw [hc]
    all_goals simp +decide

/-- The bits of a byte from bit `i` on (R112). -/
theorem readBits_simulates (n : Nat) {i : BitVec 3} {j : Fin 5} (hn : i.toNat + (n + 1) = 8) {b : State} (hb : b.Hears i j) :
    (readBits (n + 1) b).Simulates (b.enterWait Phase.bitWaitLow) (fun _ b' => (b'.storeByte b'.acc).Hears 0 j)
      (fun _ b' => (b'.storeByte b'.acc).afterByte) := by
  induction n generalizing b i with
  | zero =>
    have hi : i = 7 := BitVec.toNat_inj.mp (by show i.toNat = 7; omega)
    refine (readBit_simulates hb).thenOp fun v b1 h1 => ?_
    rw [State.assemble_last (h1.bit.trans hi)]
    exact ⟨⟨h1.slack, h1.busy, rfl, h1.byte, fun _ => rfl⟩, .refl _⟩
  | succ n ih =>
    have hi : i ≠ 7 := by rintro rfl; simp at hn; omega
    refine (readBit_simulates hb).thenOp fun v b1 h1 => ?_
    rw [State.assemble_of_ne (h1.bit ▸ hi)]
    have hnext : (i + 1).toNat = i.toNat + 1 := by
      rw [BitVec.toNat_add]
      show (i.toNat + 1) % 8 = _
      omega
    refine ih (i := i + 1) (by omega)
      ⟨h1.slack, h1.busy, by rw [State.keepBit_bitIdx, h1.bit], h1.byte, fun h0 => ?_⟩
    rw [h0] at hnext
    cases hnext

/-- A byte (R112, R138). -/
theorem readByte_simulates {j : Fin 5} {b : State} (hb : b.Hears 0 j) :
    (readByte b).Simulates (b.enterWait Phase.bitWaitLow) (fun _ b' => b'.Hears 0 j) (fun _ b' => b'.afterByte) := by
  have hcleared : ({ b with acc := 0, bitIdx := 0 } : State) = b := by
    rw [← hb.acc rfl, ← hb.bit]
  rw [readByte, hcleared]
  exact (readBits_simulates 7 rfl hb).thenOp fun _ b1 h1 => ⟨h1, .refl _⟩

theorem State.afterByte_of_ne {b : State} (h : b.byteIdx ≠ 4) : b.afterByte = b.nextByte.enterWait Phase.bitWaitLow := by
  rw [State.afterByte, if_pos h]

theorem State.afterByte_last {b : State} (h : b.byteIdx = 4) : b.afterByte = b.nextByte.enterWait Phase.endWaitLow := by
  have hnext : b.nextByte = b := by
    rw [State.nextByte, h, show nextByteIdx 4 = 4 from rfl, ← h]
  rw [State.afterByte, if_neg (not_not_intro h), hnext]

/-- The bytes of the frame from byte `j` on (R120, state 5). -/
theorem readBytes_simulates (n : Nat) {j : Fin 5} (hn : j.val + (n + 1) = 5) {b : State} (hb : b.Hears 0 j) :
    (readBytes (n + 1) b).Simulates (b.enterWait Phase.bitWaitLow) (fun _ b' => ∃ k, b'.Hears 0 k)
      (fun _ b' => b'.enterWait Phase.endWaitLow) := by
  induction n generalizing b j with
  | zero =>
    refine (readByte_simulates hb).thenOp fun _ b1 h1 => ?_
    rw [State.afterByte_last (h1.byte.trans (Fin.ext (by show j.val = 4; omega)))]
    exact ⟨⟨_, h1.slack, h1.busy, h1.bit, rfl, h1.acc⟩, .refl _⟩
  | succ n ih =>
    refine (readByte_simulates hb).thenOp fun _ b1 h1 => ?_
    rw [State.afterByte_of_ne (fun h4 => by rw [h1.byte] at h4; rw [h4] at hn; exact absurd hn (by show ¬(4 + (n + 1 + 1) = 5); omega))]
    refine ih (j := nextByteIdx j) ?_ ⟨h1.slack, h1.busy, h1.bit, by rw [State.nextByte_byteIdx, h1.byte], h1.acc⟩
    rw [nextByteIdx_val]
    omega

/-- END_WAIT_LOW, strict and soft (R139). -/
theorem endWait_simulates {i : BitVec 3} {j : Fin 5} {b : State} (hb : b.Hears i j) :
    (endWait b).Simulates (b.enterWait Phase.endWaitLow) (fun _ _ => True) (fun _ b' => b'.enterPhase Phase.validate) := by
  have hwait := waitFor_passes (p := Phase.endWaitLow) rfl hb
  unfold endWait
  cases hr : waitFor .low b.params.endLowRetries b with
  | refused e => trivial
  | ok a b' =>
    rw [hr] at hwait
    obtain ⟨-, hpass⟩ := hwait
    rw [State.matched_endWaitLow (s := b'.enterPhase Phase.endWaitLow) rfl] at hpass
    exact ⟨trivial, hpass⟩
  | err e b' =>
    rw [hr] at hwait
    obtain ⟨rfl, -, hpass⟩ := hwait
    rw [State.exhausted_endWaitLow (s := b'.enterPhase Phase.endWaitLow) rfl, State.endWaitFailed] at hpass
    show OpEnd.Simulates (if b'.params.frameEndStrict then OpEnd.err .timeout b' else OpEnd.ok () b') _ _ _
    cases hstrict : b'.params.frameEndStrict <;>
      rw [show (b'.enterPhase Phase.endWaitLow).params.frameEndStrict = _ from hstrict] at hpass
    · exact ⟨trivial, hpass⟩
    · exact hpass

/-- VALIDATE (R140). -/
theorem validateEnd_simulates (b : State) :
    (validateEnd b).Simulates (b.enterPhase Phase.validate) (fun _ _ => True) (fun _ b' => b'.enterPhase Phase.restore) := by
  have hpass : Passes (b.enterPhase Phase.validate) ((b.enterPhase Phase.validate).validateRegs.enterPhase Phase.restore) :=
    .act (.validates rfl) (by simp +decide) (by simp +decide) (.refl _)
  rcases validateFrame_cases b.frame with ⟨-, he⟩ | ⟨-, he⟩
  · rw [State.validateRegs, show (b.enterPhase Phase.validate).frame = b.frame from rfl, he] at hpass
    rw [validateEnd, he]
    exact ⟨trivial, hpass⟩
  · rw [State.validateRegs, show (b.enterPhase Phase.validate).frame = b.frame from rfl, he] at hpass
    rw [validateEnd, he]
    exact hpass

/-- The transaction from `t_open` to RESTORE (R120). -/
theorem receive_simulates {b : State} (hb : b.Hears 0 0) :
    (receive b).Simulates (b.enterWait Phase.ackWaitLow) (fun _ _ => True) (fun _ b' => b'.enterPhase Phase.restore) := by
  refine (waitFor_simulates (p := Phase.ackWaitLow) rfl (by decide) hb).thenOp fun _ b1 h1 => ?_
  rw [State.matched_ackWaitLow (s := b1.enterPhase Phase.ackWaitLow) rfl]
  refine (waitFor_simulates (p := Phase.ackWaitHigh) rfl (by decide) h1).thenOp fun _ b2 h2 => ?_
  rw [State.matched_ackWaitHigh (s := b2.enterPhase Phase.ackWaitHigh) rfl]
  refine (readBytes_simulates 4 rfl h2).thenOp fun _ b3 ⟨_, h3⟩ => ?_
  exact (endWait_simulates h3).thenOp fun _ b4 _ => validateEnd_simulates b4

/-! ## The whole transaction -/

/-- From an idle block that sees `start` to the first wait: the request and the release (R120, R131 to R133). -/
theorem passes_opened {s : State} (hp : s.phase = Phase.idle) (hm : s.pinMode = .output) (hstart : s.startNow = true) :
    Passes s (s.opened.enterWait Phase.ackWaitLow) := by
  have hbegun : s.begun.phase ≠ s.phase := by rw [hp]; simp +decide [State.begun]
  have hpulse : Passes s.begun (s.pulsed.enterPhase Phase.reqLow) := passes_delay s.params.reqLowUs (.inl rfl) rfl
  have hrelease : Passes (s.pulsed.enterPhase Phase.reqLow).reqLowEnded
      ((({ s.pulsed with pinLevel := .high } : State).delayUs s.params.relHighUs).enterPhase Phase.relHigh) :=
    passes_delay (b := { s.pulsed with pinLevel := .high }) s.params.relHighUs (.inr (.inl rfl)) rfl
  refine .act (.begins hp hstart hm) hbegun (by simp +decide [State.begun]) (hpulse.trans ?_)
  refine .act (.reqLowEnds rfl rfl rfl hm) (by simp +decide [State.reqLowEnded]) (by simp +decide [State.reqLowEnded])
    (hrelease.trans ?_)
  exact .act (.relHighEnds rfl rfl rfl) (by simp +decide [State.relHighEnded]) (by simp +decide [State.relHighEnded]) (.refl _)

/-- The transaction ends in the tick in which the block comes to RESTORE (R141). -/
theorem goOn_restore {v : State} (hp : v.phase = Phase.restore) : goOn 0 v = .next v.restoreLine.endTick := by
  rw [goOn, settle_rests (.restores hp) (.inr rfl)]
  rfl

/-- A READ ends in the state to which the machine comes at RESTORE, but for the result field. -/
theorem execRead_passes {s t : State} (hp : s.phase = Phase.idle) (hm : s.pinMode = .output) (hstart : s.startNow = true)
    (h : exec .read s = .next t) :
    ∃ v, Passes s v ∧ v.phase = Phase.restore ∧ v.env = t.env ∧ v.restoreLine = { t with ret := s.ret } := by
  have hsim := receive_simulates (b := s.opened) ⟨rfl, rfl, rfl, rfl, fun _ => rfl⟩
  have hopened := passes_opened hp hm hstart
  have hmeets := receive_meets s.opened
  rw [execRead_output hp hm] at h
  cases hr : receive s.opened with
  | ok a b =>
    rw [hr] at h hsim hmeets
    obtain ⟨u, ⟨hu, -⟩, -, rfl⟩ := hmeets
    cases h
    refine ⟨_, hopened.trans hsim.2, rfl, rfl, ?_⟩
    rw [← show u.ret = s.ret by rw [hu]; rfl]
    rfl
  | err e b =>
    rw [hr] at h hsim hmeets
    obtain ⟨-, hb, -⟩ := hmeets
    cases h
    refine ⟨_, hopened.trans hsim, rfl, rfl, ?_⟩
    rw [← show b.ret = s.ret by rw [hb]; rfl]
    rfl
  | refused e => rw [hr] at h; cases h

/-- Settles O45: the machine's way from `start` to RESTORE is READ's, and busy; then RESTORE ends its tick. -/
theorem readAgreesWithTheTicks : Obligations.ReadAgreesWithTheTicks := by
  rintro s t ⟨hp, hm, htask⟩ hstart h hr
  rw [← State.startNow_notSpawned htask] at hstart
  obtain ⟨v, hpass, hrestore, henv, hv⟩ := execRead_passes hp hm hstart h
  rw [← henv] at hr
  obtain ⟨hrun, hbusy⟩ := hpass.run htask hr
  have hr0 : s.inputsNow.rst = false := hr 0 hpass.tick_le
  have hgo : ∀ n, runTicks (n + 1) s = goOn n s := fun n => by
    rw [runTicks_succ_eq_goOn hr0 htask, State.beginTick_of_idle hp]
  refine ⟨?_, fun k hpos hk => ?_⟩
  · have hend := hrun 0
    rw [goOn_restore hrestore, hv, henv] at hend
    rw [hgo]
    exact hend
  · obtain ⟨k, rfl⟩ : ∃ n, k = n + 1 := ⟨k - 1, by omega⟩
    rw [hgo]
    exact hbusy k (by rw [henv]; omega)

end Sys2Proof.Machine
end

section
/-! Every running transaction ends (R207): the ticks it may still take go down with every tick that blocks. -/

namespace Sys2Proof

/-- The ticks that may pass after a phase with this code, with `bits` more bits to come (R146 (b)). -/
def Params.ticksAfter (p : Params) (c : BitVec 4) (bits : Nat) : Nat :=
  if c = Phase.reqLow then p.relHighUs.toNat + (p.bytesTicks + p.endLowRetries.toNat)
  else if c = Phase.relHigh then p.bytesTicks + p.endLowRetries.toNat
  else if c = Phase.ackWaitLow then
    (p.ackHighRetries.toNat - 1) + (40 * p.bitTicks + (p.endLowRetries.toNat - 1))
  else if c = Phase.ackWaitHigh then 40 * p.bitTicks + (p.endLowRetries.toNat - 1)
  else if c = Phase.bitWaitLow then
    (p.bitHighRetries.toNat - 1) + (p.sampleDelayUs.toNat + (bits * p.bitTicks + (p.endLowRetries.toNat - 1)))
  else if c = Phase.bitWaitHigh then p.sampleDelayUs.toNat + (bits * p.bitTicks + (p.endLowRetries.toNat - 1))
  else if c = Phase.bitDelay then bits * p.bitTicks + p.endLowRetries.toNat
  else 0

/-- The greatest duration, with the forty bits named. -/
theorem Params.greatestDuration_eq_bits (p : Params) : p.greatestDuration =
    p.reqLowUs.toNat + p.relHighUs.toNat + (p.ackLowRetries.toNat - 1) + (p.ackHighRetries.toNat - 1) + 40 * p.bitTicks +
      p.endLowRetries.toNat := by
  simp only [Params.greatestDuration, Params.bitTicks]
  omega

variable (p : Params) (bits : Nat)

theorem Params.ticksAfter_reqLow : p.ticksAfter Phase.reqLow bits = p.relHighUs.toNat + (p.bytesTicks + p.endLowRetries.toNat) := rfl
theorem Params.ticksAfter_relHigh : p.ticksAfter Phase.relHigh bits = p.bytesTicks + p.endLowRetries.toNat := rfl
theorem Params.ticksAfter_ackWaitLow : p.ticksAfter Phase.ackWaitLow bits =
    (p.ackHighRetries.toNat - 1) + (40 * p.bitTicks + (p.endLowRetries.toNat - 1)) := rfl
theorem Params.ticksAfter_ackWaitHigh : p.ticksAfter Phase.ackWaitHigh bits = 40 * p.bitTicks + (p.endLowRetries.toNat - 1) := rfl
theorem Params.ticksAfter_bitWaitLow : p.ticksAfter Phase.bitWaitLow bits =
    (p.bitHighRetries.toNat - 1) + (p.sampleDelayUs.toNat + (bits * p.bitTicks + (p.endLowRetries.toNat - 1))) := rfl
theorem Params.ticksAfter_bitWaitHigh : p.ticksAfter Phase.bitWaitHigh bits =
    p.sampleDelayUs.toNat + (bits * p.bitTicks + (p.endLowRetries.toNat - 1)) := rfl
theorem Params.ticksAfter_bitDelay : p.ticksAfter Phase.bitDelay bits = bits * p.bitTicks + p.endLowRetries.toNat := rfl
theorem Params.ticksAfter_endWaitLow : p.ticksAfter Phase.endWaitLow bits = 0 := rfl

end Sys2Proof

namespace Sys2Proof.Machine

/-! ## The ticks left -/

/-- The bits of the frame after the one that comes next. -/
def State.bitsAfter (s : State) : Nat := 39 - (8 * s.byteIdx.val + s.bitIdx.toNat)

/-- The ticks that may pass in the phase itself: what is left of its timer, or of its polls. -/
def State.ticksHere (s : State) : Nat :=
  match waitOperands s.params s.phase with
  | some (_, m) => m.toNat - s.retry.toNat
  | none => if (delayOperand s.params s.phase).isSome then s.timer.toNat else 0

/-- The ticks that may still pass in a transaction before RESTORE, on exact delays. -/
def State.ticksLeft (s : State) : Nat := s.ticksHere + s.params.ticksAfter s.phase s.bitsAfter

theorem State.ticksHere_wait {s : State} {g : Level} {m : BitVec 8} (hw : waitOperands s.params s.phase = some (g, m)) :
    s.ticksHere = m.toNat - s.retry.toNat := by
  rw [State.ticksHere, hw]

theorem State.ticksLeft_wait {s : State} {g : Level} {m : BitVec 8} (hw : waitOperands s.params s.phase = some (g, m)) :
    s.ticksLeft = m.toNat - s.retry.toNat + s.params.ticksAfter s.phase s.bitsAfter := by
  rw [State.ticksLeft, State.ticksHere_wait hw]

theorem State.ticksHere_delay {s : State} (hp : s.phase = Phase.reqLow ∨ s.phase = Phase.relHigh ∨ s.phase = Phase.bitDelay) :
    s.ticksHere = s.timer.toNat := by
  rw [State.ticksHere, waitOperands_of_delay hp]
  exact if_pos ((delayOperand_isSome_iff s.params s.phase).mpr hp)

/-- The ticks of a wait phase that has just been entered. -/
theorem State.ticksLeft_enterWait {s : State} {c : BitVec 4} {g : Level} {m : BitVec 8}
    (hw : waitOperands s.params c = some (g, m)) :
    (s.enterWait c).ticksLeft = m.toNat + s.params.ticksAfter c s.bitsAfter := by
  rw [State.ticksLeft, State.ticksHere_wait (s := s.enterWait c) hw]
  rfl

/-- The ticks of a delay phase that has just been entered. -/
theorem State.ticksLeft_enterDelay {s : State} {c : BitVec 4} (n : BitVec 15)
    (hp : c = Phase.reqLow ∨ c = Phase.relHigh ∨ c = Phase.bitDelay) :
    (s.enterDelay c n).ticksLeft = n.toNat + s.params.ticksAfter c s.bitsAfter := by
  rw [State.ticksLeft, State.ticksHere_delay (s := s.enterDelay c n) hp]
  rfl

/-- VALIDATE and RESTORE take no tick. -/
theorem State.ticksLeft_ending {s : State} (hp : s.phase = Phase.validate ∨ s.phase = Phase.restore) : s.ticksLeft = 0 := by
  rcases hp with hp | hp <;> rw [State.ticksLeft, State.ticksHere, hp] <;> rfl

/-! ## An action that goes on -/

theorem State.bitsAfter_mul_le (s : State) : s.bitsAfter * s.params.bitTicks ≤ 39 * s.params.bitTicks :=
  Nat.mul_le_mul_right _ (Nat.sub_le _ _)

theorem State.ticksLeft_matched_le {s : State} {g : Level} {m : BitVec 8} (hl : s.params.LimitsPositive)
    (hw : waitOperands s.params s.phase = some (g, m)) (hr : s.retry.toNat + 1 ≤ m.toNat) :
    s.countPoll.matched.ticksLeft ≤ s.ticksLeft := by
  obtain ⟨-, hackHigh, hbitLow, hbitHigh, hend⟩ := hl
  have hbits := s.bitsAfter_mul_le
  have hticks : s.params.bitTicks = (s.params.bitLowRetries.toNat - 1) +
    ((s.params.bitHighRetries.toNat - 1) + s.params.sampleDelayUs.toNat) := rfl
  rw [State.ticksLeft_wait hw]
  rcases waitOperands_cases hw with ⟨hp, -, rfl⟩ | ⟨hp, -, rfl⟩ | ⟨hp, -, rfl⟩ | ⟨hp, -, rfl⟩ | ⟨hp, -, rfl⟩ <;> rw [hp]
  · rw [State.matched_ackWaitLow (s := s.countPoll) hp, State.ticksLeft_enterWait rfl, Params.ticksAfter_ackWaitLow,
      Params.ticksAfter_ackWaitHigh, State.countPoll_params]
    omega
  · rw [State.matched_ackWaitHigh (s := s.countPoll) hp, State.ticksLeft_enterWait rfl, Params.ticksAfter_ackWaitHigh,
      Params.ticksAfter_bitWaitLow, State.countPoll_params, show s.countPoll.bitsAfter = s.bitsAfter from rfl]
    omega
  · rw [State.matched_bitWaitLow (s := s.countPoll) hp, State.ticksLeft_enterWait rfl, Params.ticksAfter_bitWaitLow,
      Params.ticksAfter_bitWaitHigh, State.countPoll_params, show s.countPoll.bitsAfter = s.bitsAfter from rfl]
    omega
  · rw [State.matched_bitWaitHigh (s := s.countPoll) hp, State.ticksLeft_enterDelay _ (.inr (.inr rfl)),
      Params.ticksAfter_bitWaitHigh, Params.ticksAfter_bitDelay, State.countPoll_params,
      show s.countPoll.bitsAfter = s.bitsAfter from rfl]
    omega
  · rw [State.matched_endWaitLow (s := s.countPoll) hp, State.ticksLeft_ending (.inl rfl)]
    exact Nat.zero_le _

theorem State.ticksLeft_exhausted (s : State) : s.exhausted.ticksLeft = 0 := by
  obtain ⟨-, -, -, -, -, hphase⟩ := s.exhausted_frame
  exact State.ticksLeft_ending hphase

/-- Entering the wait for the next bit, with one bit less to come, takes a bit's ticks off. -/
theorem State.ticksLeft_nextBit {s u : State} (hl : s.params.LimitsPositive) (hparams : u.params = s.params)
    (hbits : u.bitsAfter + 1 = s.bitsAfter) :
    (u.enterWait Phase.bitWaitLow).ticksLeft = s.bitsAfter * s.params.bitTicks + s.params.endLowRetries.toNat := by
  obtain ⟨-, -, hlow, hhigh, hend⟩ := hl
  have hticks : s.params.bitTicks = (s.params.bitLowRetries.toNat - 1) +
    ((s.params.bitHighRetries.toNat - 1) + s.params.sampleDelayUs.toNat) := rfl
  rw [State.ticksLeft_enterWait rfl, Params.ticksAfter_bitWaitLow, hparams, ← hbits, Nat.succ_mul]
  omega

theorem State.ticksLeft_sampleBit_le {s : State} (hl : s.params.LimitsPositive) :
    s.sampleBit.ticksLeft ≤ s.bitsAfter * s.params.bitTicks + s.params.endLowRetries.toNat := by
  have hbyte := s.byteIdx.isLt
  rcases s.sampleBit_cases with ⟨hbit, h⟩ | ⟨hbit, hne, h⟩ | ⟨hbit, hbyte, h⟩ <;> rw [h]
  · have hlt : s.bitIdx.toNat < 7 := by
      have h7 : s.bitIdx.toNat ≠ 7 := fun h7 => hbit (BitVec.toNat_inj.mp h7)
      have := s.bitIdx.isLt
      omega
    have hnext : (s.bitIdx + 1).toNat = s.bitIdx.toNat + 1 := by
      rw [BitVec.toNat_add]
      exact Nat.mod_eq_of_lt (by show s.bitIdx.toNat + 1 < 8; omega)
    refine Nat.le_of_eq (State.ticksLeft_nextBit (u := s.keepBit _) hl rfl ?_)
    show 39 - (8 * s.byteIdx.val + (s.bitIdx + 1).toNat) + 1 = 39 - (8 * s.byteIdx.val + s.bitIdx.toNat)
    omega
  · have hlt : s.byteIdx.val ≠ 4 := fun h4 => hne (Fin.ext h4)
    refine Nat.le_of_eq (State.ticksLeft_nextBit (u := (s.storeByte _).nextByte) hl rfl ?_)
    show 39 - (8 * (nextByteIdx s.byteIdx).val + 0) + 1 = 39 - (8 * s.byteIdx.val + s.bitIdx.toNat)
    rw [nextByteIdx_val, hbit]
    show _ = 39 - (8 * s.byteIdx.val + 7)
    omega
  · rw [State.ticksLeft_enterWait rfl, Params.ticksAfter_endWaitLow]
    exact Nat.le_add_left _ _

/-- An action that goes on within a transaction leaves no more ticks than there were. -/
theorem Acts.ticksLeft_le {s t : State} (ha : Acts s t) (hmid : s.MidTick) (hl : s.params.LimitsPositive)
    (hidle : s.phase ≠ Phase.idle) (hphase : t.phase ≠ s.phase) : t.ticksLeft ≤ s.ticksLeft := by
  cases ha with
  | rest | delayRuns | delaySlack | waitSlack | mismatches => exact absurd rfl hphase
  | begins hp => exact absurd hp hidle
  | reqLowEnds hp =>
    rw [State.reqLowEnded, State.ticksLeft_enterDelay _ (.inr (.inl rfl)), State.ticksLeft, hp, Params.ticksAfter_reqLow]
    exact Nat.le_add_left _ _
  | relHighEnds hp =>
    rw [State.relHighEnded, State.ticksLeft_enterWait rfl, State.ticksLeft, hp, Params.ticksAfter_relHigh,
      Params.ticksAfter_ackWaitLow, State.configureInput_params, Params.bytesTicks]
    obtain ⟨hackLow, -, -, -, hend⟩ := hl
    omega
  | samples hp =>
    refine Nat.le_trans (State.ticksLeft_sampleBit_le hl) ?_
    rw [State.ticksLeft, hp, Params.ticksAfter_bitDelay]
    exact Nat.le_add_left _ _
  | exhausts => rw [State.ticksLeft_exhausted]; exact Nat.zero_le _
  | pollMatches g m hw hs hr =>
    exact State.ticksLeft_matched_le hl hw (State.countPoll_retry_toNat (hmid.counters.retry g m hw).1 hr).2
  | validates hp =>
    rw [State.ticksLeft_ending (.inr rfl)]
    exact Nat.zero_le _
  | restores =>
    have hzero : s.restoreLine.ticksLeft = 0 := rfl
    rw [hzero]
    exact Nat.zero_le _

/-! ## An action that blocks -/

theorem State.ticksLeft_congr {s t : State} (hhere : t.ticksHere + 1 = s.ticksHere) (hparams : t.params = s.params)
    (hphase : t.phase = s.phase) (hbits : t.bitsAfter = s.bitsAfter) : t.ticksLeft + 1 = s.ticksLeft := by
  rw [State.ticksLeft, State.ticksLeft, hparams, hphase, hbits]
  omega

/-- An action that blocks within a transaction leaves one tick less at the next tick. -/
theorem Acts.ticksLeft_blocked {s t : State} (ha : Acts s t) (hmid : s.MidTick) (hexact : s.params.delaySlackMax = 0)
    (hidle : s.phase ≠ Phase.idle) (hphase : t.phase = s.phase) : t.endTick.beginTick.ticksLeft + 1 = s.ticksLeft := by
  have hslack : s.env.slack = 0 := Nat.le_zero.mp (hexact ▸ hmid.counters.slack)
  rcases ha.rests (.inl hphase) with ⟨hp, -⟩ | ⟨hp, ⟨ht, rfl⟩ | ⟨-, hs, -⟩⟩ | ⟨g, m, hw, ⟨hs, -⟩ | ⟨-, hr, -, rfl⟩⟩ | ⟨hp, rfl⟩
  · exact absurd hp hidle
  · refine State.ticksLeft_congr ?_ rfl rfl rfl
    rw [State.ticksHere_delay hp, State.ticksHere_delay (s := t.endTick.beginTick) hp]
    exact State.beginTick_timer_toNat (s := t.endTick) hp ht
  · exact absurd hslack hs
  · exact absurd hslack hs
  · obtain ⟨hcount, hle⟩ := State.countPoll_retry_toNat (hmid.counters.retry g m hw).1 hr
    have hnext : s.countPoll.drawSlack.endTick.beginTick = s.countPoll.drawSlack.endTick := State.beginTick_of_wait hw
    rw [hnext]
    refine State.ticksLeft_congr ?_ rfl rfl rfl
    rw [State.ticksHere_wait hw, State.ticksHere_wait (s := s.countPoll.drawSlack.endTick) hw]
    show m.toNat - s.countPoll.retry.toNat + 1 = _
    omega
  · exact absurd hphase.symm (by rw [hp]; simp +decide)

/-! ## Ticks and runs -/

/-- Inside a tick of a transaction with the parameters `p`: it runs, and at most `n` ticks are left. -/
structure State.RunsWithin (s : State) (p : Params) (n : Nat) : Prop where
  mid : s.MidTick
  params : s.params = p
  runs : s.phase ≠ Phase.idle
  ticks : s.ticksLeft ≤ n

theorem State.RunsWithin.acts {s t : State} {p : Params} {n : Nat} (hl : p.LimitsPositive) (h : s.RunsWithin p n) (ha : Acts s t)
    (hphase : t.phase ≠ s.phase) (hidle : t.phase ≠ Phase.idle) : t.RunsWithin p n := by
  obtain ⟨hmid, rfl, hruns, hticks⟩ := h
  obtain ⟨-, -, hparams, -⟩ := ha.frame
  exact ⟨hmid.acts ha, hparams, hidle, Nat.le_trans (ha.ticksLeft_le hmid hl hruns hphase) hticks⟩

/-- Where a tick of a running transaction rests: it has ended, or it runs and has one tick less left. -/
theorem State.RunsWithin.rests {s t : State} {p : Params} {n : Nat} (hexact : p.delaySlackMax = 0) (h : s.RunsWithin p n)
    (ha : Acts s t) (hrest : t.phase = s.phase ∨ t.phase = Phase.idle) :
    t.phase = Phase.idle ∧ t.done = true ∨ t.busy = true ∧ t.endTick.beginTick.ticksLeft + 1 ≤ n := by
  obtain ⟨hmid, rfl, hruns, hticks⟩ := h
  have hbusy : t.busy = true ↔ t.phase ≠ Phase.idle := (hmid.acts ha).pins.busy.1
  by_cases hidle : t.phase = Phase.idle
  · have hdone := ha.busy_or_done (.inl (.inl (hmid.pins.busy.1.mpr hruns)))
    exact .inl ⟨hidle, hdone.resolve_left fun hb => hbusy.mp hb hidle⟩
  · have hblocked := ha.ticksLeft_blocked hmid hexact hruns (hrest.resolve_right hidle)
    exact .inr ⟨hbusy.mpr hidle, by omega⟩

/-- A tick of a running transaction ends it, or leaves one tick less. -/
theorem State.Inv.step_ticksLeft {s : State} (h : s.Inv) (hexact : s.params.delaySlackMax = 0) (hl : s.params.LimitsPositive)
    (hbusy : s.busy = true) (hr : s.inputsNow.rst = false) :
    ∃ t, Machine.step s = .next t ∧ (t.phase = Phase.idle ∧ t.done = true ∨
      t.busy = true ∧ t.beginTick.ticksLeft + 1 ≤ s.beginTick.ticksLeft) := by
  have hruns : s.beginTick.phase ≠ Phase.idle := h.midTick.pins.busy.1.mp hbusy
  obtain ⟨u, t, hsettle, hu, ha, hrest⟩ :=
    settle_of_progress (P := fun u => u.RunsWithin s.params s.beginTick.ticksLeft)
      (fun _ _ hu ha hphase hidle => hu.acts hl ha hphase hidle) (fun _ hu => hu.mid.acts_exists)
      ⟨h.midTick, rfl, hruns, Nat.le_refl _⟩
  have hend := hu.rests hexact ha hrest
  exact ⟨(t.taskAct s.taskRaises).endTick, by rw [step_noReset hr, hsettle, andThen_next], hend⟩

/-- A running transaction ends within the ticks left, and the tick of its RESTORE. -/
theorem State.Inv.ends {n : Nat} {s : State} (h : s.Inv) (hexact : s.params.delaySlackMax = 0) (hl : s.params.LimitsPositive)
    (hbusy : s.busy = true) (hn : s.beginTick.ticksLeft ≤ n) (hr : ∀ k, k ≤ n → s.rstAt k = false) :
    ∃ m t, m ≤ n + 1 ∧ runTicks m s = .next t ∧ t.phase = Phase.idle ∧ t.done = true := by
  induction n generalizing s with
  | zero =>
    obtain ⟨t, hstep, ⟨hidle, hdone⟩ | ⟨-, hlt⟩⟩ := h.step_ticksLeft hexact hl hbusy (hr 0 (Nat.le_refl _))
    · exact ⟨1, t, Nat.le_refl _, by rw [runTicks_succ, hstep]; rfl, hidle, hdone⟩
    · omega
  | succ n ih =>
    obtain ⟨t, hstep, ⟨hidle, hdone⟩ | ⟨hbusy', hlt⟩⟩ := h.step_ticksLeft hexact hl hbusy (hr 0 (Nat.zero_le _))
    · exact ⟨1, t, by omega, by rw [runTicks_succ, hstep]; rfl, hidle, hdone⟩
    · obtain ⟨htick, hinputs, hparams, -⟩ := tickTakesOneTickAndKeepsParameters s t hstep
      have hr' : ∀ k, k ≤ n → t.rstAt k = false := fun k hk => by
        have hlater := hr (1 + k) (by omega)
        rw [← State.rstAt_elapse] at hlater
        rw [← hlater]
        exact State.rstAt_congr htick hinputs k
      obtain ⟨m, u, hm, hrun, hend⟩ := ih (h.of_step hstep) (hparams ▸ hexact) (hparams ▸ hl) hbusy' (by omega) hr'
      exact ⟨m + 1, u, by omega, by rw [runTicks_succ, hstep]; exact hrun, hend⟩

theorem State.Inv.ticksLeft_delay_lt {s : State} (h : s.Inv) (hexact : s.params.delaySlackMax = 0)
    (hp : s.phase = Phase.reqLow ∨ s.phase = Phase.relHigh ∨ s.phase = Phase.bitDelay) :
    s.beginTick.ticksLeft < s.params.greatestDuration := by
  obtain ⟨-, -, -, -, htimer, -⟩ := h
  obtain ⟨n, hn⟩ := Option.isSome_iff_exists.mp ((delayOperand_isSome_iff s.params s.phase).mpr hp)
  obtain ⟨hle, hone⟩ := htimer.le hn
  have hone := hone hexact
  have hdown := State.beginTick_timer_toNat hp fun h0 => by rw [h0] at hone; exact absurd hone (by decide)
  have hbits := s.bitsAfter_mul_le
  have hticks : s.params.bitTicks = (s.params.bitLowRetries.toNat - 1) +
    ((s.params.bitHighRetries.toNat - 1) + s.params.sampleDelayUs.toNat) := rfl
  have hleft : s.beginTick.ticksLeft = s.beginTick.timer.toNat + s.params.ticksAfter s.phase s.bitsAfter := by
    rw [State.ticksLeft, State.ticksHere_delay (s := s.beginTick) hp]
    rfl
  rw [hleft, Params.greatestDuration_eq_bits]
  rcases hp with hp | hp | hp <;> rw [hp] at hn ⊢ <;> cases hn
  · rw [Params.ticksAfter_reqLow, Params.bytesTicks]
    omega
  · rw [Params.ticksAfter_relHigh, Params.bytesTicks]
    omega
  · rw [Params.ticksAfter_bitDelay]
    omega

theorem State.Inv.ticksLeft_wait_lt {s : State} (h : s.Inv) (hl : s.params.LimitsPositive) {g : Level} {m : BitVec 8}
    (hw : waitOperands s.params s.phase = some (g, m)) : s.beginTick.ticksLeft < s.params.greatestDuration := by
  obtain ⟨-, -, -, -, -, hretry, -⟩ := h
  obtain ⟨hone, hle⟩ := hretry.bounds hw
  obtain ⟨-, -, -, -, hend⟩ := hl
  have hbits := s.bitsAfter_mul_le
  have hticks : s.params.bitTicks = (s.params.bitLowRetries.toNat - 1) +
    ((s.params.bitHighRetries.toNat - 1) + s.params.sampleDelayUs.toNat) := rfl
  rw [State.beginTick_of_wait hw, State.ticksLeft_wait hw, Params.greatestDuration_eq_bits]
  rcases waitOperands_cases hw with ⟨hp, -, rfl⟩ | ⟨hp, -, rfl⟩ | ⟨hp, -, rfl⟩ | ⟨hp, -, rfl⟩ | ⟨hp, -, rfl⟩ <;> rw [hp]
  · rw [Params.ticksAfter_ackWaitLow]
    omega
  · rw [Params.ticksAfter_ackWaitHigh]
    omega
  · rw [Params.ticksAfter_bitWaitLow]
    omega
  · rw [Params.ticksAfter_bitWaitHigh]
    omega
  · rw [Params.ticksAfter_endWaitLow]
    omega

/-- Between ticks fewer ticks are left than the bound of R146 (b). -/
theorem State.Inv.ticksLeft_lt {s : State} (h : s.Inv) (hexact : s.params.delaySlackMax = 0) (hl : s.params.LimitsPositive)
    (hbusy : s.busy = true) : s.beginTick.ticksLeft < s.params.greatestDuration := by
  have ⟨hphase, hbusyIff, _⟩ := h
  have hrests : s.phase.toNat ≤ 8 := hphase
  rcases phase_cases s.params s.phase with hp | hp | ⟨g, m, hw⟩ | hp | hp | hp
  · exact absurd hp (hbusyIff.1.mp hbusy)
  · exact h.ticksLeft_delay_lt hexact hp
  · exact h.ticksLeft_wait_lt hl hw
  · exact absurd hp hphase.not_ending.1
  · exact absurd hp hphase.not_ending.2
  · omega

/-- Settles O49: the ticks left bound the run, and the invariant bounds them. -/
theorem everyTransactionEnds : Obligations.EveryTransactionEnds := by
  intro s h ⟨hexact, _⟩ hl hbusy hr
  have hlt := h.ticksLeft_lt hexact hl hbusy
  obtain ⟨m, t, hm, hrun⟩ := h.ends hexact hl hbusy (Nat.le_refl _) fun k hk => hr k (by omega)
  exact ⟨m, t, by omega, hrun⟩

end Sys2Proof.Machine
end
